-- ==== Sys2Proof/Word.lean ====
section
/-!
DEFINITION. The word types of the block (WORD_BITS = 32, 00_scope.md R8).
-/
namespace Sys2Proof

/-- One byte of frame memory or of the sensor bus. -/
abbrev Byte := BitVec 8

/-- A 16-bit sensor register value, mask or pixel (R70, R156). -/
abbrev Half := BitVec 16

/-- A controller register, a frame-memory byte address, response data: WORD_BITS = 32 bits (R8). -/
abbrev Word := BitVec 32

/-- A command word on the command port: 64 bits, one length only (R91). -/
abbrev CmdWord := BitVec 64

end Sys2Proof
end

