-- ==== Sys2Proof/Syntax.lean ====
section
/-!
DEFINITION. The commands of the command port: one constructor per row of the opcode map (30_encoding.md R94),
in the table's order, with its operands as R92 assembles them.
-/
namespace Sys2Proof

/-- The four controller registers, by word offset (R15, R24). -/
inductive CtrlReg where
  | ctrl        -- offset 0
  | irqMask     -- offset 1
  | irqStatus   -- offset 2
  | framePtr    -- offset 3
deriving DecidableEq, Repr, Inhabited

/-- The 21 commands. An option index and a DIAG item are the 8-bit field F8 (R92); their ranges are checked in
`Instr.WellFormed`. -/
inductive Instr where
  | regRd (offset : CtrlReg)
  | regWr (offset : CtrlReg) (data : Word)
  | enable
  | disable
  | enableRx
  | disableRx
  | setIrqEn (flag : Bool)
  | frameReady
  | setTarget (address : Word)
  | getTarget
  | ack
  | arm (buffer : Word)
  | harvest (next : Word)
  | waitFrame (timeout : Word)
  | diag (item : Byte)
  | sregWr (id : Byte) (value : Half)
  | sregRd (id : Byte)
  | sregRmw (id : Byte) (set : Half) (clear : Half)
  | setopt (index : Byte) (value : Word)
  | configure
  | getopt (index : Byte)
deriving DecidableEq, Repr, Inhabited

end Sys2Proof
end

