-- ==== Sys2Proof/WellFormed.lean ====
section
/-!
DEFINITION. The operand ranges the command words do not enforce by width (30_encoding.md R95 (b) and (c)).
-/
namespace Sys2Proof

/-- The highest DIAG item (R95 b, R146). -/
def maxDiagItem : Byte := 13#8

/-- The highest option index (R95 c, R38). -/
def maxOptIndex : Byte := 16#8

/-- A DIAG item is 0..13 and an option index 0..16; every other operand is in range by its type. -/
def Instr.wellFormed : Instr → Bool
  | .diag item => decide (item ≤ maxDiagItem)
  | .setopt index _ => decide (index ≤ maxOptIndex)
  | .getopt index => decide (index ≤ maxOptIndex)
  | .regRd _ | .regWr _ _ | .enable | .disable | .enableRx | .disableRx | .setIrqEn _ | .frameReady
  | .setTarget _ | .getTarget | .ack | .arm _ | .harvest _ | .waitFrame _ | .sregWr _ _ | .sregRd _
  | .sregRmw _ _ _ | .configure => true

/-- The well-formed commands. -/
abbrev Instr.WellFormed (i : Instr) : Prop := i.wellFormed = true

end Sys2Proof
end

