-- ==== Sys2Proof/Decode.lean ====
section
/-!
DEFINITION. The command-word encoding (30_encoding.md R91 to R95): splitting a word into OPC, F8, V16 and A32,
the decoder (total on 64-bit words, rejecting by name), the opcode map of R94 as data, and the encoder.
A command reaches the port as one 64-bit word, not as bytes in memory (R84): no byte order applies to it.
-/
namespace Sys2Proof

/-! ### Fields of a command word (R91) -/

/-- OPC, bits 63:56. -/
def CmdWord.opc (w : CmdWord) : Byte := w.extractLsb' 56 8
/-- F8, bits 55:48. -/
def CmdWord.f8 (w : CmdWord) : Byte := w.extractLsb' 48 8
/-- V16, bits 47:32. -/
def CmdWord.v16 (w : CmdWord) : Half := w.extractLsb' 32 16
/-- A32, bits 31:0. -/
def CmdWord.a32 (w : CmdWord) : Word := w.extractLsb' 0 32

/-- The word `OO FF VVVV AAAAAAAA` (R91). -/
def CmdWord.ofFields (opc f8 : Byte) (v16 : Half) (a32 : Word) : CmdWord := opc ++ f8 ++ v16 ++ a32

/-- The register at a word offset F8[1:0] (R92). -/
def CtrlReg.ofBits (b : BitVec 2) : CtrlReg :=
  if b = 0#2 then .ctrl else if b = 1#2 then .irqMask else if b = 2#2 then .irqStatus else .framePtr

/-- The word offset of a register (R15). -/
def CtrlReg.toBits : CtrlReg → BitVec 2
  | .ctrl => 0#2
  | .irqMask => 1#2
  | .irqStatus => 2#2
  | .framePtr => 3#2

/-! ### The decoder -/

/-- Why a word is illegal (R95). -/
inductive DecodeError where
  /-- No row of R94 has this OPC (R95 a). -/
  | unassignedOpcode (opc : Byte)
  /-- The OPC is assigned, and a must-be-zero bit is set (R93, R95 a). -/
  | mustBeZero (opc : Byte)
  /-- DIAG with an item above 13 (R95 b). -/
  | diagItem (item : Byte)
  /-- SETOPT or GETOPT with an index above 16 (R95 c). -/
  | optIndex (index : Byte)
deriving DecidableEq, Repr

/-- The command `i` if its must-be-zero bits are zero (R93). -/
def mustBeZero (zero : Bool) (opc : Byte) (i : Instr) : Except DecodeError Instr :=
  if zero then .ok i else .error (.mustBeZero opc)

/-- R95's operand ranges, checked after the must-be-zero bits. -/
def checkRange : Except DecodeError Instr → Except DecodeError Instr
  | .ok (.diag item) => if item ≤ maxDiagItem then .ok (.diag item) else .error (.diagItem item)
  | .ok (.setopt index value) =>
    if index ≤ maxOptIndex then .ok (.setopt index value) else .error (.optIndex index)
  | .ok (.getopt index) => if index ≤ maxOptIndex then .ok (.getopt index) else .error (.optIndex index)
  | r => r

/-- The opcode map of R94 with the must-be-zero bits of R93, from the four fields of a word. -/
def decodeFields (opc f8 : Byte) (v16 : Half) (a32 : Word) : Except DecodeError Instr :=
  let f0 := f8 == 0#8
  let v0 := v16 == 0#16
  let a0 := a32 == 0#32
  match opc with
  | 0x01#8 => mustBeZero (f8 &&& 0xFC#8 == 0#8 && v0 && a0) opc (.regRd (.ofBits (f8.extractLsb' 0 2)))
  | 0x02#8 => mustBeZero (f8 &&& 0xFC#8 == 0#8 && v0) opc (.regWr (.ofBits (f8.extractLsb' 0 2)) a32)
  | 0x10#8 => mustBeZero (f0 && v0 && a0) opc .enable
  | 0x11#8 => mustBeZero (f0 && v0 && a0) opc .disable
  | 0x12#8 => mustBeZero (f0 && v0 && a0) opc .enableRx
  | 0x13#8 => mustBeZero (f0 && v0 && a0) opc .disableRx
  | 0x14#8 => mustBeZero (f8 &&& 0xFE#8 == 0#8 && v0 && a0) opc (.setIrqEn (f8.getLsbD 0))
  | 0x15#8 => mustBeZero (f0 && v0 && a0) opc .frameReady
  | 0x16#8 => mustBeZero (f0 && v0) opc (.setTarget a32)
  | 0x17#8 => mustBeZero (f0 && v0 && a0) opc .getTarget
  | 0x18#8 => mustBeZero (f0 && v0 && a0) opc .ack
  | 0x20#8 => mustBeZero (f0 && v0) opc (.arm a32)
  | 0x21#8 => mustBeZero (f0 && v0) opc (.harvest a32)
  | 0x22#8 => mustBeZero (f0 && v0) opc (.waitFrame a32)
  | 0x23#8 => checkRange (mustBeZero (v0 && a0) opc (.diag f8))
  | 0x30#8 => mustBeZero a0 opc (.sregWr f8 v16)
  | 0x31#8 => mustBeZero (v0 && a0) opc (.sregRd f8)
  | 0x32#8 => mustBeZero (a32.extractLsb' 16 16 == 0#16) opc (.sregRmw f8 v16 (a32.extractLsb' 0 16))
  | 0x40#8 => checkRange (mustBeZero v0 opc (.setopt f8 a32))
  | 0x41#8 => mustBeZero (f0 && v0 && a0) opc .configure
  | 0x42#8 => checkRange (mustBeZero (v0 && a0) opc (.getopt f8))
  | _ => .error (.unassignedOpcode opc)

/-- The command a word names, or why it is illegal. -/
def decode (w : CmdWord) : Except DecodeError Instr := decodeFields w.opc w.f8 w.v16 w.a32

/-- DESIGN CHOICE (log 18). The instruction read from a word numbered as spec/opcode_table.json numbers it (bit 0 the least significant
bit of the one 64-bit word); the bits above `nbits` are zero in `w` itself. -/
def decodeTableWord (_nbits w : Nat) : Option Instr :=
  if w < 2 ^ 64 then
    match decode (BitVec.ofNat 64 w) with
    | .ok i => some i
    | .error _ => none
  else none

/-! ### The opcode map as data (R94) -/

/-- One row of the opcode map: a word `w` selects it if `w &&& mask = pattern`. -/
structure Row where
  mnemonic : String
  pattern : CmdWord
  mask : CmdWord
deriving DecidableEq, Repr

/-- The word selects the row (R94). -/
def Row.matchesWord (r : Row) (w : CmdWord) : Bool := w &&& r.mask == r.pattern

/-- A command's row of R94. -/
def Instr.row : Instr → Row
  | .regRd _ => ⟨"REG_RD", 0x0100000000000000#64, 0xFFFCFFFFFFFFFFFF#64⟩
  | .regWr _ _ => ⟨"REG_WR", 0x0200000000000000#64, 0xFFFCFFFF00000000#64⟩
  | .enable => ⟨"ENABLE", 0x1000000000000000#64, 0xFFFFFFFFFFFFFFFF#64⟩
  | .disable => ⟨"DISABLE", 0x1100000000000000#64, 0xFFFFFFFFFFFFFFFF#64⟩
  | .enableRx => ⟨"ENABLE_RX", 0x1200000000000000#64, 0xFFFFFFFFFFFFFFFF#64⟩
  | .disableRx => ⟨"DISABLE_RX", 0x1300000000000000#64, 0xFFFFFFFFFFFFFFFF#64⟩
  | .setIrqEn _ => ⟨"SET_IRQ_EN", 0x1400000000000000#64, 0xFFFEFFFFFFFFFFFF#64⟩
  | .frameReady => ⟨"FRAME_READY", 0x1500000000000000#64, 0xFFFFFFFFFFFFFFFF#64⟩
  | .setTarget _ => ⟨"SET_TARGET", 0x1600000000000000#64, 0xFFFFFFFF00000000#64⟩
  | .getTarget => ⟨"GET_TARGET", 0x1700000000000000#64, 0xFFFFFFFFFFFFFFFF#64⟩
  | .ack => ⟨"ACK", 0x1800000000000000#64, 0xFFFFFFFFFFFFFFFF#64⟩
  | .arm _ => ⟨"ARM", 0x2000000000000000#64, 0xFFFFFFFF00000000#64⟩
  | .harvest _ => ⟨"HARVEST", 0x2100000000000000#64, 0xFFFFFFFF00000000#64⟩
  | .waitFrame _ => ⟨"WAIT_FRAME", 0x2200000000000000#64, 0xFFFFFFFF00000000#64⟩
  | .diag _ => ⟨"DIAG", 0x2300000000000000#64, 0xFF00FFFFFFFFFFFF#64⟩
  | .sregWr _ _ => ⟨"SREG_WR", 0x3000000000000000#64, 0xFF000000FFFFFFFF#64⟩
  | .sregRd _ => ⟨"SREG_RD", 0x3100000000000000#64, 0xFF00FFFFFFFFFFFF#64⟩
  | .sregRmw _ _ _ => ⟨"SREG_RMW", 0x3200000000000000#64, 0xFF000000FFFF0000#64⟩
  | .setopt _ _ => ⟨"SETOPT", 0x4000000000000000#64, 0xFF00FFFF00000000#64⟩
  | .configure => ⟨"CONFIGURE", 0x4100000000000000#64, 0xFFFFFFFFFFFFFFFF#64⟩
  | .getopt _ => ⟨"GETOPT", 0x4200000000000000#64, 0xFF00FFFFFFFFFFFF#64⟩

/-- One command of each row, in the order of R94. -/
def rowSamples : List Instr :=
  [.regRd .ctrl, .regWr .ctrl 0#32, .enable, .disable, .enableRx, .disableRx, .setIrqEn false, .frameReady,
   .setTarget 0#32, .getTarget, .ack, .arm 0#32, .harvest 0#32, .waitFrame 0#32, .diag 0#8, .sregWr 0#8 0#16,
   .sregRd 0#8, .sregRmw 0#8 0#16 0#16, .setopt 0#8 0#32, .configure, .getopt 0#8]

/-- The opcode map: the 21 rows of R94. -/
def opcodeTable : List Row := rowSamples.map Instr.row

/-! ### The encoder -/

/-- The word of a command, from R92's operand places and R94's opcodes. -/
def encode : Instr → CmdWord
  | .regRd o => .ofFields 0x01#8 (o.toBits.setWidth 8) 0#16 0#32
  | .regWr o d => .ofFields 0x02#8 (o.toBits.setWidth 8) 0#16 d
  | .enable => .ofFields 0x10#8 0#8 0#16 0#32
  | .disable => .ofFields 0x11#8 0#8 0#16 0#32
  | .enableRx => .ofFields 0x12#8 0#8 0#16 0#32
  | .disableRx => .ofFields 0x13#8 0#8 0#16 0#32
  | .setIrqEn b => .ofFields 0x14#8 ((BitVec.ofBool b).setWidth 8) 0#16 0#32
  | .frameReady => .ofFields 0x15#8 0#8 0#16 0#32
  | .setTarget a => .ofFields 0x16#8 0#8 0#16 a
  | .getTarget => .ofFields 0x17#8 0#8 0#16 0#32
  | .ack => .ofFields 0x18#8 0#8 0#16 0#32
  | .arm b => .ofFields 0x20#8 0#8 0#16 b
  | .harvest n => .ofFields 0x21#8 0#8 0#16 n
  | .waitFrame t => .ofFields 0x22#8 0#8 0#16 t
  | .diag item => .ofFields 0x23#8 item 0#16 0#32
  | .sregWr id v => .ofFields 0x30#8 id v 0#32
  | .sregRd id => .ofFields 0x31#8 id 0#16 0#32
  | .sregRmw id s c => .ofFields 0x32#8 id s (c.setWidth 32)
  | .setopt i x => .ofFields 0x40#8 i 0#16 x
  | .configure => .ofFields 0x41#8 0#8 0#16 0#32
  | .getopt i => .ofFields 0x42#8 i 0#16 0#32

end Sys2Proof
end

