-- ==== Sys2Proof/Config.lean ====
section
/-!
DEFINITION. What an implementation fixes (00_scope.md R8) and the free values the spec calls draws (R10, R21).
The fixed parameters are definitions; the OPEN ones are the fields of `Params`, and the instance the machine
starts with is arbitrary among the admissible ones. Every opaque constant here has no body: no proof can see
its value. No rule of the spec depends on a value of an OPEN parameter being known.
-/
namespace Sys2Proof

/-- The two contexts that issue commands (R14, R226). -/
inductive Ctx where
  | main   -- MAIN, the consumer's main line
  | irq    -- IRQ, the interrupt handler
deriving DecidableEq, Repr, Inhabited

/-- Who may take the next step (R20, and R233 for the host, which is outside the block). -/
inductive Agent where
  | port (c : Ctx)   -- the command port, on behalf of one context
  | engine           -- the capture engine
  | sequencer        -- the sensor register sequencer
  | host             -- the host: reset and frame-memory accesses
deriving DecidableEq, Repr, Inhabited

/-- PIXEL_ENDIAN (R75). -/
inductive Endian where
  | little
  | big
deriving DecidableEq, Repr, Inhabited

/-- SENSOR_READ_MODEL (42_sensor_interface.md R163). -/
inductive ReadModel where
  | stored   -- a read returns SR[id]
  | oracle   -- a read returns a draw
deriving DecidableEq, Repr, Inhabited

/-! ### Fixed parameters (R8) -/

/-- WORD_BITS. -/
def wordBits : Nat := 32
/-- FRAME_W. -/
def frameW : Nat := 320
/-- FRAME_H. -/
def frameH : Nat := 240
/-- PIXEL_BYTES. -/
def pixelBytes : Nat := 2
/-- FRAME_PIXELS = FRAME_W * FRAME_H. -/
def framePixels : Nat := frameW * frameH
/-- FRAME_BYTES = PIXEL_BYTES * FRAME_PIXELS. -/
def frameBytes : Nat := pixelBytes * framePixels
/-- BUF_ALIGN. -/
def bufAlign : Nat := 2
/-- CHIP_ENABLE_MASK: bit 1. -/
def chipEnableMask : Half := 0x0002#16
/-- The width of the test-pattern selector field at TP_MODE_LSB. -/
def tpModeBits : Nat := 4

/-! ### OPEN parameters (R8) -/

/-- The OPEN parameters of R8. Plain data, so that a statement about every state is about every instance. -/
structure Params where
  /-- CB_BASE: byte address of controller offset 0 on the host's bus (R72). -/
  cbBase : Word
  /-- FP_WRITE_ACKS: whether a write of FRAME_PTR clears PEND (R29). -/
  fpWriteAcks : Bool
  /-- PIXEL_ENDIAN (R75). -/
  pixelEndian : Endian
  /-- SENSOR_DEV_ADDR: the framing that carries it is out of scope (R6, R160). -/
  sensorDevAddr : Byte
  /-- SENSOR_READ_MODEL (R163). -/
  readModel : ReadModel
  /-- REG_ROW_SIZE. -/
  regRowSize : Byte
  /-- REG_COL_SIZE. -/
  regColSize : Byte
  /-- REG_SHUTTER_LOWER. -/
  regShutterLower : Byte
  /-- REG_SHUTTER_UPPER. -/
  regShutterUpper : Byte
  /-- REG_ROW_ADDR_MODE. -/
  regRowAddrMode : Byte
  /-- REG_COL_ADDR_MODE. -/
  regColAddrMode : Byte
  /-- REG_READ_MODE_1. -/
  regReadMode1 : Byte
  /-- REG_READ_MODE_2. -/
  regReadMode2 : Byte
  /-- REG_PIXCLK. -/
  regPixclk : Byte
  /-- REG_TP_CTRL. -/
  regTpCtrl : Byte
  /-- REG_TP_RED. -/
  regTpRed : Byte
  /-- REG_TP_GREEN. -/
  regTpGreen : Byte
  /-- REG_TP_BLUE. -/
  regTpBlue : Byte
  /-- REG_TP_BAR_WIDTH. -/
  regTpBarWidth : Byte
  /-- REG_OUTPUT_CONTROL. -/
  regOutputControl : Byte
  /-- SENSOR_DEFAULT(id) for the 256 identifiers (R39). -/
  sensorDefault : Vector Half 256
  /-- SNAPSHOT_MASK. -/
  snapshotMask : Half
  /-- ROW_MIRROR_MASK. -/
  rowMirrorMask : Half
  /-- COL_MIRROR_MASK. -/
  colMirrorMask : Half
  /-- PIXCLK_INV_MASK. -/
  pixclkInvMask : Half
  /-- PIXCLK_DIV_LSB. -/
  pixclkDivLsb : Nat
  /-- PIXCLK_DIV_BITS. -/
  pixclkDivBits : Nat
  /-- TP_EN_MASK. -/
  tpEnMask : Half
  /-- TP_MODE_LSB. -/
  tpModeLsb : Nat
deriving DecidableEq, Repr, Inhabited

/-- The fifteen documented sensor identifiers (R8), in R8's order. -/
def Params.sensorIds (p : Params) : List Byte :=
  [p.regRowSize, p.regColSize, p.regShutterLower, p.regShutterUpper, p.regRowAddrMode, p.regColAddrMode,
   p.regReadMode1, p.regReadMode2, p.regPixclk, p.regTpCtrl, p.regTpRed, p.regTpGreen, p.regTpBlue,
   p.regTpBarWidth, p.regOutputControl]

/-- The 16-bit mask of the `width` bits from bit `lsb` upwards. -/
def fieldMask (lsb width : Nat) : Half := BitVec.ofNat 16 (2 ^ width - 1) <<< lsb

/-- The mask has exactly one bit. -/
def oneBit (m : Half) : Bool := m != 0#16 && (m &&& (m - 1#16)) == 0#16

/-- The constraints of R8 on an instance: identifiers pairwise distinct; one-bit masks; masks and fields of one
register do not overlap; every field lies within bits 15..0. -/
def Params.wf (p : Params) : Bool :=
  decide p.sensorIds.Nodup &&
  oneBit p.snapshotMask && oneBit p.rowMirrorMask && oneBit p.colMirrorMask &&
  oneBit p.pixclkInvMask && oneBit p.tpEnMask &&
  (p.rowMirrorMask &&& p.colMirrorMask) == 0#16 &&
  decide (p.pixclkDivLsb + p.pixclkDivBits ≤ 16) &&
  (p.pixclkInvMask &&& fieldMask p.pixclkDivLsb p.pixclkDivBits) == 0#16 &&
  decide (p.tpModeLsb + tpModeBits ≤ 16) &&
  (p.tpEnMask &&& fieldMask p.tpModeLsb tpModeBits) == 0#16

/-- The MT9P031-like instance that 93_implementation_defined.md §2 lists (general knowledge, not in the source;
an instance choice). PRESUMED for every number in it. It serves as the tests' concrete instance and as the
admissible stand-in in `Config.accepted`; no statement depends on it. CB_BASE, FP_WRITE_ACKS, PIXEL_ENDIAN and
SENSOR_READ_MODEL, which that list leaves out, are 0, false, Little and Stored here. -/
def Params.mt9p031Like : Params where
  cbBase := 0#32
  fpWriteAcks := false
  pixelEndian := .little
  sensorDevAddr := 0xBA#8
  readModel := .stored
  regRowSize := 0x03#8
  regColSize := 0x04#8
  regShutterLower := 0x09#8
  regShutterUpper := 0x08#8
  regRowAddrMode := 0x22#8
  regColAddrMode := 0x23#8
  regReadMode1 := 0x1E#8
  regReadMode2 := 0x20#8
  regPixclk := 0x0A#8
  regTpCtrl := 0xA0#8
  regTpRed := 0xA2#8
  regTpGreen := 0xA1#8
  regTpBlue := 0xA3#8
  regTpBarWidth := 0xA4#8
  regOutputControl := 0x07#8
  sensorDefault := (((((Vector.replicate 256 0#16).set 0x03 0x0797#16).set 0x04 0x0A1F#16).set 0x1E 0x4006#16).set
    0x20 0x0040#16).set 0x07 0x1F82#16
  snapshotMask := 0x0100#16
  rowMirrorMask := 0x8000#16
  colMirrorMask := 0x4000#16
  pixclkInvMask := 0x8000#16
  pixclkDivLsb := 0
  pixclkDivBits := 7
  tpEnMask := 0x0001#16
  tpModeLsb := 3

/-- The OPEN parameters of the machine at hand: unconstrained, with no body. -/
opaque Config.openParams : Params

/-- DESIGN CHOICE (log 2). An ill-formed instance is not accepted (R214, 93_implementation_defined.md row 23): every
admissible instance is itself, and an ill-formed one is replaced by an admissible one. -/
def Config.accepted (p : Params) : Params := if p.wf then p else Params.mt9p031Like

/-- The instance the machine starts with: arbitrary among the admissible instances. -/
def Config.params : Params := Config.accepted Config.openParams

/-! ### Free values (R10 `draw`): uninterpreted functions of the number of draws taken so far -/

/-- Which agent takes the next step (R20, R227). -/
opaque Config.freeAgent : Nat → Agent
/-- Whether a bus transaction succeeds (R162), and whether a held wait times out (R141). -/
opaque Config.freeBool : Nat → Bool
/-- A pixel (R152), a value read from the sensor (R161, R163), what a failed write leaves (R160). -/
opaque Config.freeHalf : Nat → Half
/-- Reserved bits on a read (R28), FRAME_PTR at reset (R29, R43). -/
opaque Config.freeWord : Nat → Word
/-- What the platform's frame memory holds at an address nothing has written since the machine started (R43). -/
opaque Config.platformByte : Nat → Byte

end Sys2Proof
end

