-- ==== Sys2Proof/Machine/State.lean ====
section
/-!
DEFINITION. The state of the block, the sensor's register map and frame memory (10_state.md R20 to R43), with
the inputs the step reads (command streams, draws, host actions) as plain lists, and the reasons a step can stop.
-/
namespace Sys2Proof.Machine

/-- One item for each context (R40, R226). -/
structure PerCtx (α : Type) where
  main : α
  irq : α
deriving DecidableEq, Repr

/-- The handoff FSM state (R32). -/
inductive Fsm where
  | idle
  | armed
  | draining
deriving DecidableEq, Repr

/-- The capture engine's state (R36): `base` is the buffer address latched from FRAME_PTR at START, `n` the number
of pixels written so far. -/
inductive Engine where
  | waiting
  | capturing (base : Word) (n : Nat)
deriving DecidableEq, Repr

/-- A sequencer transaction (R181). The function of a write half is `v ↦ (v & ~clear) | set`
(DEDUCED, log 13). -/
inductive Txn where
  | w (id : Byte) (value : Half)            -- a plain write
  | rr (id : Byte)                          -- the read half of a read-modify-write
  | rw (id : Byte) (set : Half) (clear : Half)   -- its write half
deriving DecidableEq, Repr

/-- The sequencer state (R37). -/
inductive Sequencer where
  | sIdle
  | running (txns : List Txn) (k : Nat) (rmw : Half)
deriving DecidableEq, Repr

/-- seq.result: the outcome of the last CONFIGURE (R37). -/
structure SeqResult where
  code : Byte
  id : Byte
deriving DecidableEq, Repr

/-- The option registers OPT[0..16], each of the width R38 gives it. PIXCLK_DIV is PIXCLK_DIV_BITS wide, which
an admissible instance bounds by 16; SETOPT keeps it below 2^PIXCLK_DIV_BITS. -/
structure Options where
  rowSize : Half          -- 0
  colSize : Half          -- 1
  shutter : Word          -- 2
  rowBin : BitVec 2       -- 3
  rowSkip : BitVec 3      -- 4
  colBin : BitVec 2       -- 5
  colSkip : BitVec 3      -- 6
  mirrorRow : Bool        -- 7
  mirrorCol : Bool        -- 8
  pixclkInv : Bool        -- 9
  pixclkDiv : Half        -- 10
  tpEnable : Bool         -- 11
  tpPattern : BitVec 4    -- 12
  tpRed : Half            -- 13
  tpGreen : Half          -- 14
  tpBlue : Half           -- 15
  tpBarWidth : Half       -- 16
deriving DecidableEq, Repr

/-- A command that stays in its context's slot (R40, R216): only these two can hold. The progress of a held
CONFIGURE is the sequencer's state. -/
inductive Held where
  | waitFrame (timeout : Word)
  | configure
deriving DecidableEq, Repr

/-- Response codes (R211). -/
inductive Code where
  | ok
  | busTransferError
  | configurationError
  | protocolViolation
  | timeout
  | cancelled
  | illegalCommand
deriving DecidableEq, Repr

/-- A response (R97, R210). -/
structure Response where
  code : Code
  data : Word
deriving DecidableEq, Repr

/-- The kind of a sensor bus transaction (R41). -/
inductive BusKind where
  | write
  | read
deriving DecidableEq, Repr

/-- One entry of the bus log (R41). -/
structure BusEntry where
  kind : BusKind
  id : Byte
  value : Half
  ok : Bool
deriving DecidableEq, Repr

/-- One entry of the memory log: a MemWrite by the engine (R41). -/
structure MemEntry where
  addr : Word
  bytes : List Byte
deriving DecidableEq, Repr

/-- What the host does to the block besides issuing commands (R233). -/
inductive HostAct where
  | reset
  | memWrite (addr : Word) (bytes : List Byte)
  | memRead (addr : Word) (len : Nat)
deriving DecidableEq, Repr

/-- What one host read of frame memory returned (R71). -/
structure HostRead where
  addr : Word
  bytes : List Byte
deriving DecidableEq, Repr

/-- Frame memory (R71): the bytes written so far, by address. -/
abbrev Memory := List Host.Cell

/-- The draws still to come, by what they decide (R10, R21), and how many draws were taken. Where a list is empty
the draw is a free value of Config. The model's own field, not the block's state. -/
structure Env where
  agents : List Agent
  busOk : List Bool
  timeouts : List Bool
  pixels : List Half
  sensorVals : List Half
  words : List Word
  drawn : Nat
deriving DecidableEq, Repr

/-- The machine's state. The first group is the block's (R22: "The state listed in this file is everything the block
holds"), then the sensor's registers and frame memory, then the model's own inputs and observations. -/
structure State where
  /-- CTRL.RX, the receive gate (R25). -/
  rx : Bool
  /-- CTRL.PWR, sensor power enable (R25). -/
  pwr : Bool
  /-- IRQ_MASK.IE (R26). -/
  ie : Bool
  /-- IRQ_STATUS.PEND (R27). -/
  pend : Bool
  /-- FRAME_PTR (R29). -/
  fp : Word
  /-- The handoff FSM (R32). -/
  fsm : Fsm
  /-- sess.armed (R34). -/
  armed : Option Word
  /-- sess.last (R34). -/
  last : Option Word
  /-- sess.ready (R34). -/
  ready : Bool
  /-- The capture engine (R36). -/
  eng : Engine
  /-- The sequencer (R37). -/
  seq : Sequencer
  /-- seq.result (R37). -/
  result : SeqResult
  /-- OPT[0..16] (R38). -/
  opt : Options
  /-- slot[MAIN] and slot[IRQ] (R40). -/
  slot : PerCtx (Option Held)
  /-- The bus log, oldest first (R41). -/
  busLog : List BusEntry
  /-- The memory log, oldest first (R41). -/
  memLog : List MemEntry
  /-- The sensor's register map SR (R39). -/
  sr : Vector Half 256
  /-- Frame memory M (R71). -/
  mem : Memory
  /-- The implementation parameters (R8): an argument of the step (R21), never changed by it. -/
  params : Params
  /-- The context on whose behalf a command runs (R226); set when a command is issued or re-examined. DESIGN CHOICE
  (log 7). -/
  ctx : Ctx
  /-- The command words each context has still to issue, next first (R21, R263). -/
  stream : PerCtx (List CmdWord)
  /-- The host's actions still to come, next first (R233). DESIGN CHOICE (log 6). -/
  hostActs : List HostAct
  /-- What the host's reads returned, oldest first (R263). -/
  hostReads : List HostRead
  /-- The responses delivered to each context, oldest first (R210, R263). -/
  responses : PerCtx (List Response)
  /-- The draws (R21). -/
  env : Env
deriving DecidableEq, Repr

/-- A model fault (R214). -/
inductive Fault where
  /-- START latched a base with base mod BUF_ALIGN ≠ 0. Raised by `engineStart` (R151); safe: the spec gives the
  situation no meaning and stops there. -/
  | bufferMisaligned (base : Word)
  /-- START latched a base with base + FRAME_BYTES > 2^WORD_BITS. Raised by `engineStart` (R151); safe, as above. -/
  | bufferOutOfRange (base : Word)
deriving DecidableEq, Repr

/-- A refusal. No command and no step of this model refuses. -/
inductive Refusal where
  /-- Raised by no arm of `exec`: every command of the opcode table has its meaning. Safe: a stop. -/
  | notModelled (mnemonic : String)
deriving DecidableEq, Repr

/-- What one step or one command answers. -/
abbrev Outcome := Host.Outcome State Fault Refusal

/-- Every option at its reset value 0 (R38, R43). -/
def Options.reset : Options where
  rowSize := 0#16
  colSize := 0#16
  shutter := 0#32
  rowBin := 0#2
  rowSkip := 0#3
  colBin := 0#2
  colSkip := 0#3
  mirrorRow := false
  mirrorCol := false
  pixclkInv := false
  pixclkDiv := 0#16
  tpEnable := false
  tpPattern := 0#4
  tpRed := 0#16
  tpGreen := 0#16
  tpBlue := 0#16
  tpBarWidth := 0#16

/-- No draw supplied from outside: every draw is a free value of Config. DESIGN CHOICE (log 3): one draw, FRAME_PTR's,
is already taken at reset. -/
def Env.reset : Env where
  agents := []
  busOk := []
  timeouts := []
  pixels := []
  sensorVals := []
  words := []
  drawn := 1

/-- The block and the sensor after reset (R43, R242), for an instance `p` and a drawn FRAME_PTR, with the model's own
inputs and observations empty and nothing known of frame memory. -/
def State.atReset (p : Params) (fp : Word) : State where
  rx := false
  pwr := false
  ie := false
  pend := false
  fp := fp
  fsm := .idle
  armed := none
  last := none
  ready := false
  eng := .waiting
  seq := .sIdle
  result := ⟨0#8, 0#8⟩
  opt := .reset
  slot := ⟨none, none⟩
  busLog := []
  memLog := []
  sr := p.sensorDefault
  mem := []
  params := p
  ctx := .main
  stream := ⟨[], []⟩
  hostActs := []
  hostReads := []
  responses := ⟨[], []⟩
  env := .reset

/-- The machine right after reset (R43). FRAME_PTR is a draw (R29): the free value number 0. -/
def State.reset : State := State.atReset Config.params (Config.freeWord 0)

end Sys2Proof.Machine
end

