-- ==== Sys2Proof/Machine/Flags.lean ====
section
/-!
DEFINITION. The derived lines and the enabling conditions computed from the flags (10_state.md R30, R31, R42;
41_handoff.md R150).
-/
namespace Sys2Proof.Machine

/-- The interrupt output line IRQ = PEND & IE (R30, R221). -/
def State.irq (s : State) : Bool := s.pend && s.ie

/-- The engine gate GATE = PWR & RX (R31). -/
def State.gate (s : State) : Bool := s.pwr && s.rx

/-- The engine is Capturing (R36). -/
def Engine.isCapturing : Engine → Bool
  | .waiting => false
  | .capturing _ _ => true

/-- The sequencer is Running (R37). -/
def Sequencer.isRunning : Sequencer → Bool
  | .sIdle => false
  | .running _ _ _ => true

/-- START is enabled (R150): the engine waits, the gate is open and no completion is pending. -/
def State.startEnabled (s : State) : Bool := !s.eng.isCapturing && s.gate && !s.pend

end Sys2Proof.Machine
end

