-- ==== Sys2Proof/Machine/Operands.lean ====
section
/-!
DEFINITION. Operand and value forms: zero extension, the sensor bus's byte order, the pixel's byte order and
address, the address-mode packing, the shutter split, the masks of a read-modify-write, option widths, response
code numbers, the byte address of a controller register, RGB565.
-/
namespace Sys2Proof.Machine

/-! ### Zero extension (R9, R92) -/

/-- One bit zero-extended to WORD_BITS. -/
def zextBit (b : Bool) : Word := (BitVec.ofBool b).setWidth 32

/-- A value of any width zero-extended to WORD_BITS. -/
def zextWord {w : Nat} (v : BitVec w) : Word := v.setWidth 32

/-! ### Per-context items (R40) -/

/-- The item of one context. -/
def PerCtx.get {α : Type} (p : PerCtx α) : Ctx → α
  | .main => p.main
  | .irq => p.irq

/-- Replace the item of one context. -/
def PerCtx.set {α : Type} (p : PerCtx α) (c : Ctx) (x : α) : PerCtx α :=
  match c with
  | .main => { p with main := x }
  | .irq => { p with irq := x }

/-! ### The sensor bus: most significant byte first (R75, R160, R161) -/

/-- The two bytes of a 16-bit value as they go over the bus. -/
def wireBytes (v : Half) : List Byte := [v.extractLsb' 8 8, v.extractLsb' 0 8]

/-- The value reassembled from two bytes received, the first the more significant (R161). -/
def ofWire (b0 b1 : Byte) : Half := b0 ++ b1

/-- The bytes of a logged transaction in bus order: the pointer byte, then the value (R160, R161). -/
def BusEntry.wire (e : BusEntry) : List Byte := e.id :: wireBytes e.value

/-! ### Pixels in frame memory (R74, R75, R156) -/

/-- The two bytes of a pixel in address order. -/
def pixelToBytes (e : Endian) (p : Half) : List Byte :=
  match e with
  | .little => [p.extractLsb' 0 8, p.extractLsb' 8 8]
  | .big => [p.extractLsb' 8 8, p.extractLsb' 0 8]

/-- The address of pixel index n of the buffer at base (R152). -/
def pixelAddr (base : Word) (n : Nat) : Word := base + BitVec.ofNat 32 (2 * n)

/-- The index of pixel (x, y), row-major (R74). -/
def pixelIndex (x y : Nat) : Nat := frameW * y + x

/-- red = p[15:11] (R156). -/
def pixelRed (p : Half) : BitVec 5 := p.extractLsb' 11 5
/-- green = p[10:5] (R156). -/
def pixelGreen (p : Half) : BitVec 6 := p.extractLsb' 5 6
/-- blue = p[4:0] (R156). -/
def pixelBlue (p : Half) : BitVec 5 := p.extractLsb' 0 5

/-- The 24-bit colour external consumers make of a pixel: fields shifted left, no replication (R157). -/
def pixelTo24 (p : Half) : Byte × Byte × Byte :=
  ((pixelRed p).setWidth 8 <<< 3, (pixelGreen p).setWidth 8 <<< 2, (pixelBlue p).setWidth 8 <<< 3)

/-- A buffer base is aligned (R76). -/
def baseAligned (b : Word) : Bool := b.toNat % bufAlign == 0

/-- A buffer at this base ends within the address space (R76). -/
def baseInRange (b : Word) : Bool := b.toNat + frameBytes ≤ 2 ^ wordBits

/-! ### Controller registers on the host's bus (R72) -/

/-- The byte address of a register on the host's bus. No rule of the block reads it. -/
def ctrlRegAddr (p : Params) (o : CtrlReg) : Word :=
  match o with
  | .ctrl => p.cbBase
  | .irqMask => p.cbBase + 4#32
  | .irqStatus => p.cbBase + 8#32
  | .framePtr => p.cbBase + 12#32

/-! ### Sensor register values (R167, R184, R183) -/

/-- The value a read-modify-write writes: clear, then set (R167). -/
def rmwValue (v set clear : Half) : Half := (v &&& ~~~clear) ||| set

/-- The address-mode value `(bin << 4) | skip` (R184). -/
def addrMode (bin : BitVec 2) (skip : BitVec 3) : Half := (bin.setWidth 16 <<< 4) ||| skip.setWidth 16

/-- The (bin, skip) pair of an address-mode register value (R197). -/
def decAddrMode (r : Half) : BitVec 2 × BitVec 3 := (r.extractLsb' 4 2, r.extractLsb' 0 3)

/-- SHUTTER[15:0] (R183). -/
def shutterLower (s : Word) : Half := s.extractLsb' 0 16

/-- SHUTTER[31:16] (R183). -/
def shutterUpper (s : Word) : Half := s.extractLsb' 16 16

/-- A mask, or 0 when its flag is 0 (R181 rows 10 and 11). -/
def maskIf (b : Bool) (m : Half) : Half := if b then m else 0#16

/-! ### Option registers (R38, R175) -/

/-- The width of option `i` (R38); option 10 is PIXCLK_DIV_BITS wide. None above 16. -/
def optWidth (p : Params) (i : Byte) : Option Nat :=
  match i with
  | 0#8 => some 16
  | 1#8 => some 16
  | 2#8 => some 32
  | 3#8 => some 2
  | 4#8 => some 3
  | 5#8 => some 2
  | 6#8 => some 3
  | 7#8 => some 1
  | 8#8 => some 1
  | 9#8 => some 1
  | 10#8 => some p.pixclkDivBits
  | 11#8 => some 1
  | 12#8 => some 4
  | 13#8 => some 16
  | 14#8 => some 16
  | 15#8 => some 16
  | 16#8 => some 16
  | _ => none

/-- OPT[i], zero-extended (R176); none above 16. -/
def Options.get (o : Options) (i : Byte) : Option Word :=
  match i with
  | 0#8 => some (zextWord o.rowSize)
  | 1#8 => some (zextWord o.colSize)
  | 2#8 => some o.shutter
  | 3#8 => some (zextWord o.rowBin)
  | 4#8 => some (zextWord o.rowSkip)
  | 5#8 => some (zextWord o.colBin)
  | 6#8 => some (zextWord o.colSkip)
  | 7#8 => some (zextBit o.mirrorRow)
  | 8#8 => some (zextBit o.mirrorCol)
  | 9#8 => some (zextBit o.pixclkInv)
  | 10#8 => some (zextWord o.pixclkDiv)
  | 11#8 => some (zextBit o.tpEnable)
  | 12#8 => some (zextWord o.tpPattern)
  | 13#8 => some (zextWord o.tpRed)
  | 14#8 => some (zextWord o.tpGreen)
  | 15#8 => some (zextWord o.tpBlue)
  | 16#8 => some (zextWord o.tpBarWidth)
  | _ => none

/-- OPT[i] <- x for a value that fits (R175); unchanged above 16. -/
def Options.set (o : Options) (i : Byte) (x : Word) : Options :=
  match i with
  | 0#8 => { o with rowSize := x.setWidth 16 }
  | 1#8 => { o with colSize := x.setWidth 16 }
  | 2#8 => { o with shutter := x }
  | 3#8 => { o with rowBin := x.setWidth 2 }
  | 4#8 => { o with rowSkip := x.setWidth 3 }
  | 5#8 => { o with colBin := x.setWidth 2 }
  | 6#8 => { o with colSkip := x.setWidth 3 }
  | 7#8 => { o with mirrorRow := x.getLsbD 0 }
  | 8#8 => { o with mirrorCol := x.getLsbD 0 }
  | 9#8 => { o with pixclkInv := x.getLsbD 0 }
  | 10#8 => { o with pixclkDiv := x.setWidth 16 }
  | 11#8 => { o with tpEnable := x.getLsbD 0 }
  | 12#8 => { o with tpPattern := x.setWidth 4 }
  | 13#8 => { o with tpRed := x.setWidth 16 }
  | 14#8 => { o with tpGreen := x.setWidth 16 }
  | 15#8 => { o with tpBlue := x.setWidth 16 }
  | 16#8 => { o with tpBarWidth := x.setWidth 16 }
  | _ => o

/-! ### Test patterns (R188) -/

/-- The highest selector code with a meaning (R188: codes 0..8). -/
def maxTpPattern : BitVec 4 := 8#4

/-- The nine named patterns (R188). -/
inductive TestPattern where
  | solidColor
  | horizontalGradient
  | verticalGradient
  | diagonalGradient
  | classic
  | marchingOnes
  | monoHorizontalBars
  | monoVerticalBars
  | verticalColorBars
deriving DecidableEq, Repr

/-- The selector code of a pattern (R188). -/
def TestPattern.code : TestPattern → BitVec 4
  | .solidColor => 0#4
  | .horizontalGradient => 1#4
  | .verticalGradient => 2#4
  | .diagonalGradient => 3#4
  | .classic => 4#4
  | .marchingOnes => 5#4
  | .monoHorizontalBars => 6#4
  | .monoVerticalBars => 7#4
  | .verticalColorBars => 8#4

/-! ### Code numbers (R32, R211) -/

/-- The number of a response code (R211). -/
def Code.num : Code → Byte
  | .ok => 0#8
  | .busTransferError => 1#8
  | .configurationError => 2#8
  | .protocolViolation => 3#8
  | .timeout => 4#8
  | .cancelled => 5#8
  | .illegalCommand => 6#8

/-- The DIAG code of an FSM state (R32, R146 item 4). -/
def Fsm.num : Fsm → Word
  | .idle => 0#32
  | .armed => 1#32
  | .draining => 2#32

end Sys2Proof.Machine
end

