-- ==== Sys2Proof/Machine/Ops.lean ====
section
/-!
DEFINITION. The named operations every meaning is built from: draws, frame memory, the CTRL and FRAME_PTR writes,
sensor bus transactions, responding and holding. The block takes no exception and returns from none (60_exceptions.md
R219): an error is a response, delivered by `respondTo`, the one shared operation for it.
-/
namespace Sys2Proof.Machine

/-! ### Draws (R10, R21): the next supplied one, else a free value -/

/-- Which agent takes the next step. -/
def State.nextAgent (s : State) : Agent := s.env.agents.headD (Config.freeAgent s.env.drawn)
/-- Whether the next bus transaction succeeds (R162). -/
def State.nextBusOk (s : State) : Bool := s.env.busOk.headD (Config.freeBool s.env.drawn)
/-- Whether a held wait with a timeout times out now (R141). -/
def State.nextTimeout (s : State) : Bool := s.env.timeouts.headD (Config.freeBool s.env.drawn)
/-- The next pixel (R152). -/
def State.nextPixel (s : State) : Half := s.env.pixels.headD (Config.freeHalf s.env.drawn)
/-- The next 16-bit draw of the sensor bus (R160, R161, R163). -/
def State.nextSensorVal (s : State) : Half := s.env.sensorVals.headD (Config.freeHalf s.env.drawn)
/-- The next 32-bit draw (R28, R29). -/
def State.nextWord (s : State) : Word := s.env.words.headD (Config.freeWord s.env.drawn)

/-- The state with another supply of draws. -/
def State.withEnv (s : State) (e : Env) : State := { s with env := e }

/-- The scheduling draw is taken. -/
def Env.takeAgent (e : Env) : Env := { e with agents := e.agents.tail, drawn := e.drawn + 1 }
/-- A bus-success draw is taken. -/
def Env.takeBusOk (e : Env) : Env := { e with busOk := e.busOk.tail, drawn := e.drawn + 1 }
/-- A timeout draw is taken. -/
def Env.takeTimeout (e : Env) : Env := { e with timeouts := e.timeouts.tail, drawn := e.drawn + 1 }
/-- A pixel draw is taken. -/
def Env.takePixel (e : Env) : Env := { e with pixels := e.pixels.tail, drawn := e.drawn + 1 }
/-- A sensor-value draw is taken. -/
def Env.takeSensorVal (e : Env) : Env := { e with sensorVals := e.sensorVals.tail, drawn := e.drawn + 1 }
/-- A 32-bit draw is taken. -/
def Env.takeWord (e : Env) : Env := { e with words := e.words.tail, drawn := e.drawn + 1 }

/-! ### Frame memory (R71): a list of written bytes, addresses strictly rising -/

/-- The byte at an address; none where nothing was written: the model knows no value there (log 8). -/
def Memory.read : Memory → Nat → Option Byte
  | [], _ => none
  | (k, v) :: m, a => if k = a then some v else Memory.read m a

/-- M[a] <- b. -/
def Memory.write : Memory → Nat → Byte → Memory
  | [], a, b => [(a, b)]
  | (k, v) :: m, a, b =>
    if a < k then (a, b) :: (k, v) :: m
    else if a = k then (a, b) :: m
    else (k, v) :: Memory.write m a b

/-- MemWrite: the bytes go to a, a+1, … (addresses modulo 2^32, R9). -/
def Memory.writeBytes (m : Memory) (a : Word) : List Byte → Memory
  | [] => m
  | b :: bs => Memory.writeBytes (m.write a.toNat b) (a + 1#32) bs

/-- The canonical form: addresses strictly rising and inside the 2^32-byte space. -/
abbrev Memory.wf (m : Memory) : Prop :=
  m.Pairwise (fun x y => x.1 < y.1) ∧ ∀ c ∈ m, c.1 < 2 ^ wordBits

/-- The byte the host sees at an address: the one written, else what the platform holds there, a free value (R43). -/
def Memory.hostByte (m : Memory) (a : Word) : Byte := (m.read a.toNat).getD (Config.platformByte a.toNat)

/-- MemRead: n bytes from a on (R71). -/
def Memory.readBytes (m : Memory) (a : Word) : Nat → List Byte
  | 0 => []
  | n + 1 => m.hostByte a :: Memory.readBytes m (a + 1#32) n

/-! ### Controller registers -/

/-- writeCTRL (R109): the one way any command writes CTRL; a write that closes the gate aborts a frame in progress. -/
def writeCtrl (rx pwr : Bool) (s : State) : State :=
  { s with
    eng := if s.eng.isCapturing && (!rx || !pwr) then .waiting else s.eng
    rx := rx
    pwr := pwr }

/-- `FP <- v; if FP_WRITE_ACKS then PEND <- 0` (R29). -/
def writeFp (v : Word) (s : State) : State :=
  { s with fp := v, pend := if s.params.fpWriteAcks then false else s.pend }

/-- `PEND <- 0` (R222). -/
def clearPend (s : State) : State := { s with pend := false }

/-- What a read of a controller register returns (R25 to R29): the defined bits, the rest drawn; FRAME_PTR whole. DESIGN
CHOICE (log 25): one 32-bit draw gives all the reserved bits. -/
def ctrlRegValue (o : CtrlReg) (s : State) : Word :=
  match o with
  | .ctrl => s.nextWord.extractLsb' 2 30 ++ BitVec.ofBool s.pwr ++ BitVec.ofBool s.rx
  | .irqMask => s.nextWord.extractLsb' 1 31 ++ BitVec.ofBool s.ie
  | .irqStatus => s.nextWord.extractLsb' 1 31 ++ BitVec.ofBool s.pend
  | .framePtr => s.fp

/-- The state after that read: only the draw of the reserved bits is used up (R28, R78). -/
def afterCtrlRegRead (o : CtrlReg) (s : State) : State :=
  match o with
  | .ctrl | .irqMask | .irqStatus => s.withEnv s.env.takeWord
  | .framePtr => s

/-! ### Sensor bus transactions (R160, R161) -/

/-- SR[id] (R39). -/
def State.readSr (s : State) (id : Byte) : Half := s.sr[id.toNat]'id.isLt

/-- SR[id] <- v (R39). -/
def State.writeSr (s : State) (id : Byte) (v : Half) : State := { s with sr := s.sr.set id.toNat v id.isLt }

/-- Append to the bus log (R41). -/
def State.logBus (s : State) (e : BusEntry) : State := { s with busLog := s.busLog ++ [e] }

/-- BusWrite (R160): the success is drawn; a failed write leaves SR[id] a draw; the log records the value sent. The
result is whether it succeeded. DEDUCED (log 28): SR is written so in the Oracle model too (R39). -/
def busWrite (id : Byte) (v : Half) (s : State) : Bool × State :=
  let ok := s.nextBusOk
  let s1 := s.withEnv s.env.takeBusOk
  let s2 := if ok then s1.writeSr id v else (s1.writeSr id s1.nextSensorVal).withEnv s1.env.takeSensorVal
  (ok, s2.logBus ⟨.write, id, v, ok⟩)

/-- BusRead (R161, R163): the success is drawn; the value is SR[id] when the read succeeds in the Stored model and a
draw otherwise, received as two bytes; SR is not changed. The result is the value if it succeeded. -/
def busRead (id : Byte) (s : State) : Option Half × State :=
  let ok := s.nextBusOk
  let s1 := s.withEnv s.env.takeBusOk
  let stored := ok && s.params.readModel == .stored
  let sent := if stored then s1.readSr id else s1.nextSensorVal
  let s2 := if stored then s1 else s1.withEnv s1.env.takeSensorVal
  let v := ofWire (sent.extractLsb' 8 8) (sent.extractLsb' 0 8)
  (if ok then some v else none, s2.logBus ⟨.read, id, v, ok⟩)

/-! ### Responses and holding (R210, R216) -/

/-- `respond(code, data)` to a context: the response is delivered and the context's slot is emptied (R210). -/
def respondTo (c : Ctx) (code : Code) (data : Word) (s : State) : State :=
  { s with
    slot := s.slot.set c none
    responses := s.responses.set c (s.responses.get c ++ [⟨code, data⟩]) }

/-- `respond(code, data)` to the context whose command this is. -/
def respond (code : Code) (data : Word) (s : State) : State := respondTo s.ctx code data s

/-- `hold`: the command stays in its context's slot (R10, R216). -/
def hold (h : Held) (s : State) : State := { s with slot := s.slot.set s.ctx (some h) }

end Sys2Proof.Machine
end

