-- ==== Sys2Proof/Machine/CaptureEngine.lean ====
section
/-!
DEFINITION. The capture engine's steps START, PIXEL and COMPLETE (41_handoff.md R150 to R154). ABORT is no step of its
own (R153): it is part of `writeCtrl`.
-/
namespace Sys2Proof.Machine

/-- START (R150, R151): latch FRAME_PTR; a misaligned or out-of-range base is a model fault. DEDUCED (log 10): the two
checks are made in the order the rule lists them. -/
def engineStart (s : State) : Outcome :=
  if !baseAligned s.fp then .fault (.bufferMisaligned s.fp)
  else if !baseInRange s.fp then .fault (.bufferOutOfRange s.fp)
  else .next { s with eng := .capturing s.fp 0 }

/-- PIXEL (R152): one drawn pixel goes to base + 2n in PIXEL_ENDIAN order and into the memory log. -/
def enginePixel (base : Word) (n : Nat) (s : State) : State :=
  let a := pixelAddr base n
  let bytes := pixelToBytes s.params.pixelEndian s.nextPixel
  { s with
    mem := s.mem.writeBytes a bytes
    memLog := s.memLog ++ [⟨a, bytes⟩]
    eng := .capturing base (n + 1)
    env := s.env.takePixel }

/-- COMPLETE (R154): PEND is set, and Armed becomes Draining. -/
def engineComplete (s : State) : State :=
  { s with
    pend := true
    eng := .waiting
    fsm := if s.fsm = .armed then .draining else s.fsm }

/-- The engine's turn: its one enabled step, or none. -/
def engineStep (s : State) : Outcome :=
  match s.eng with
  | .waiting => if s.startEnabled then engineStart s else .next s
  | .capturing base n =>
    if n < framePixels then .next (enginePixel base n s)
    else if n = framePixels then .next (engineComplete s)
    else .next s

end Sys2Proof.Machine
end

