-- ==== Sys2Proof/Machine/Controller.lean ====
section
/-!
DEFINITION. The controller register commands (40_controller_access.md R109 to R121). Each is one atomic transition,
always answers OK and, but for DISABLE, leaves the FSM and the session alone (R121).
-/
namespace Sys2Proof.Machine

/-- The register write of REG_WR (R110). -/
def writeCtrlReg (o : CtrlReg) (d : Word) (s : State) : State :=
  match o with
  | .ctrl => writeCtrl (d.getLsbD 0) (d.getLsbD 1) s
  | .irqMask => { s with ie := d.getLsbD 0 }
  | .irqStatus => if d.getLsbD 0 then clearPend s else s
  | .framePtr => writeFp d s

/-- REG_RD (R111). -/
def execRegRd (o : CtrlReg) (s : State) : Outcome :=
  .next (respond .ok (ctrlRegValue o s) (afterCtrlRegRead o s))

/-- REG_WR (R110). -/
def execRegWr (o : CtrlReg) (d : Word) (s : State) : Outcome :=
  .next (respond .ok 0#32 (writeCtrlReg o d s))

/-- ENABLE (R112). -/
def execEnable (s : State) : Outcome := .next (respond .ok 0#32 (writeCtrl true true s))

/-- DISABLE (R113): the one register command that moves the FSM. -/
def execDisable (s : State) : Outcome :=
  .next (respond .ok 0#32 { writeCtrl false false s with fsm := .idle, armed := none })

/-- ENABLE_RX (R114). -/
def execEnableRx (s : State) : Outcome := .next (respond .ok 0#32 (writeCtrl true s.pwr s))

/-- DISABLE_RX (R115). -/
def execDisableRx (s : State) : Outcome := .next (respond .ok 0#32 (writeCtrl false s.pwr s))

/-- SET_IRQ_EN (R116). -/
def execSetIrqEn (b : Bool) (s : State) : Outcome := .next (respond .ok 0#32 { s with ie := b })

/-- FRAME_READY (R117). -/
def execFrameReady (s : State) : Outcome := .next (respond .ok (zextBit s.pend) s)

/-- SET_TARGET (R118). -/
def execSetTarget (a : Word) (s : State) : Outcome := .next (respond .ok 0#32 (writeFp a s))

/-- GET_TARGET (R119). -/
def execGetTarget (s : State) : Outcome := .next (respond .ok s.fp s)

/-- ACK (R120). -/
def execAck (s : State) : Outcome := .next (respond .ok 0#32 (clearPend s))

end Sys2Proof.Machine
end

