-- ==== Sys2Proof/Machine/Handoff.lean ====
section
/-!
DEFINITION. The handoff FSM commands (41_handoff.md R131 to R146). A refused command changes no state of the block.
-/
namespace Sys2Proof.Machine

/-- ARM's three refusals, in order (R131, R213, R217): sequencer Running, Draining, consumer-owned buffer. -/
def armRefused (b : Word) (s : State) : Bool :=
  s.seq.isRunning || s.fsm == .draining || (s.ready && s.last == some b)

/-- The accepted ARM (R131, R132): abort any frame, write FP, acknowledge, open the receive gate, record the buffer. -/
def armAccepted (b : Word) (s : State) : State :=
  let s1 := clearPend (writeFp b (writeCtrl false s.pwr s))
  { writeCtrl true s.pwr s1 with armed := some b, fsm := .armed }

/-- ARM (R131). -/
def execArm (b : Word) (s : State) : Outcome :=
  .next (if armRefused b s then respond .protocolViolation 0#32 s else respond .ok 0#32 (armAccepted b s))

/-- HARVEST's two refusals, in order (R135, R213, R217): not Draining, the next buffer is the one just filled. -/
def harvestRefused (n : Word) (s : State) : Bool := s.fsm != .draining || n == s.fp

/-- The accepted HARVEST (R135): close the receive gate, write the next target, acknowledge, reopen the gate, record
the harvested buffer (FRAME_PTR's value before the write, R136) and the new target. -/
def harvestAccepted (n : Word) (s : State) : State :=
  let s1 := clearPend (writeFp n (writeCtrl false s.pwr s))
  { writeCtrl true s.pwr s1 with last := some s.fp, ready := true, armed := some n, fsm := .armed }

/-- HARVEST (R135). -/
def execHarvest (n : Word) (s : State) : Outcome :=
  .next (if harvestRefused n s then respond .protocolViolation 0#32 s else respond .ok s.fp (harvestAccepted n s))

/-- The ready frame's address (R140 "a where sess.last = some a"). A ready flag with no address is a state no run
reaches; the address is then a draw (DESIGN CHOICE, log 12). -/
def readyBuffer (s : State) : Word := s.last.getD s.nextWord

/-- The consumer takes the ready frame (R140). -/
def takeReady (s : State) : State := { s with ready := false }

/-- WAIT_FRAME (R140 to R142), when issued and whenever it is re-examined: a ready frame, else CANCELLED in Idle, else
TIMEOUT if a timeout is set and drawn, else it holds. -/
def execWaitFrame (t : Word) (s : State) : Outcome :=
  .next
    (if s.ready then
      respond .ok (readyBuffer s) (takeReady (if s.last.isSome then s else s.withEnv s.env.takeWord))
    else if s.fsm = .idle then respond .cancelled 0#32 s
    else if t = 0#32 then hold (.waitFrame t) s
    else if s.nextTimeout then respond .timeout 0#32 (s.withEnv s.env.takeTimeout)
    else hold (.waitFrame t) (s.withEnv s.env.takeTimeout))

/-- DIAG item `i` (R146); none above 13. -/
def diagValue (i : Byte) (s : State) : Option Word :=
  match i with
  | 0#8 => some (ctrlRegValue .ctrl s)
  | 1#8 => some (ctrlRegValue .irqMask s)
  | 2#8 => some (ctrlRegValue .irqStatus s)
  | 3#8 => some s.fp
  | 4#8 => some s.fsm.num
  | 5#8 => some (s.armed.getD 0#32)
  | 6#8 => some (zextBit s.armed.isSome)
  | 7#8 => some (s.last.getD 0#32)
  | 8#8 => some (zextBit s.last.isSome)
  | 9#8 => some (zextBit s.ready)
  | 10#8 => some (zextBit s.irq)
  | 11#8 => some (zextBit s.eng.isCapturing)
  | 12#8 => some (zextBit s.seq.isRunning)
  | 13#8 => some (zextWord (s.result.id ++ s.result.code))
  | _ => none

/-- The state after DIAG `i`: items 0 to 2 use up the draw of the reserved bits, as REG_RD does (R146). -/
def afterDiag (i : Byte) (s : State) : State :=
  match i with
  | 0#8 => afterCtrlRegRead .ctrl s
  | 1#8 => afterCtrlRegRead .irqMask s
  | 2#8 => afterCtrlRegRead .irqStatus s
  | _ => s

/-- DIAG (R145). An item above 13 is an illegal command and is answered so (R95, R215). -/
def execDiag (i : Byte) (s : State) : Outcome :=
  .next
    (match diagValue i s with
    | some v => respond .ok v (afterDiag i s)
    | none => respond .illegalCommand 0#32 s)

end Sys2Proof.Machine
end

