-- ==== Sys2Proof/Machine/Sensor.lean ====
section
/-!
DEFINITION. The sensor register commands (42_sensor_interface.md R165 to R167). Each is one atomic transition, both
transactions of SREG_RMW included.
-/
namespace Sys2Proof.Machine

/-- SREG_WR (R165). -/
def execSregWr (id : Byte) (v : Half) (s : State) : Outcome :=
  .next
    (if s.seq.isRunning then respond .protocolViolation 0#32 s
    else
      let r := busWrite id v s
      if r.1 then respond .ok 0#32 r.2 else respond .busTransferError (zextWord id) r.2)

/-- SREG_RD (R166). -/
def execSregRd (id : Byte) (s : State) : Outcome :=
  .next
    (if s.seq.isRunning then respond .protocolViolation 0#32 s
    else
      let r := busRead id s
      match r.1 with
      | some v => respond .ok (zextWord v) r.2
      | none => respond .busTransferError (zextWord id) r.2)

/-- SREG_RMW (R167): no write is made when the read fails. -/
def execSregRmw (id : Byte) (set clear : Half) (s : State) : Outcome :=
  .next
    (if s.seq.isRunning || s.fsm != .idle then respond .protocolViolation 0#32 s
    else
      let r := busRead id s
      match r.1 with
      | none => respond .configurationError (zextWord id) r.2
      | some v =>
        let w := rmwValue v set clear
        let r2 := busWrite id w r.2
        if r2.1 then respond .ok (zextWord w) r2.2 else respond .busTransferError (zextWord id) r2.2)

end Sys2Proof.Machine
end

