-- ==== Sys2Proof/Machine/Sequencer.lean ====
section
/-!
DEFINITION. The option commands, CONFIGURE, the transaction list and the sequencer's steps (43_sequencer.md R175 to
R195).
-/
namespace Sys2Proof.Machine

/-- SETOPT (R175): refused while the sequencer runs, or when the value does not fit. An index above 16 is an illegal
command (R95). -/
def execSetopt (i : Byte) (x : Word) (s : State) : Outcome :=
  .next
    (match optWidth s.params i with
    | none => respond .illegalCommand 0#32 s
    | some width =>
      if s.seq.isRunning then respond .protocolViolation 0#32 s
      else if x.toNat ≥ 2 ^ width then respond .protocolViolation 0#32 s
      else respond .ok 0#32 { s with opt := s.opt.set i x })

/-- GETOPT (R176): allowed at any time. An index above 16 is an illegal command (R95). -/
def execGetopt (i : Byte) (s : State) : Outcome :=
  .next
    (match s.opt.get i with
    | some v => respond .ok v s
    | none => respond .illegalCommand 0#32 s)

/-- Step 7, present only with the test pattern enabled (R181 rows 12 to 16, R188). -/
def testPatternTxns (p : Params) (o : Options) : List Txn :=
  if o.tpEnable then
    [.w p.regTpCtrl (p.tpEnMask ||| (o.tpPattern.setWidth 16 <<< p.tpModeLsb)),
     .w p.regTpRed o.tpRed,
     .w p.regTpGreen o.tpGreen,
     .w p.regTpBlue o.tpBlue,
     .w p.regTpBarWidth o.tpBarWidth]
  else []

/-- `transactions(OPT)` (R181): the eight steps of R180 in order, 18 transactions with the test pattern enabled and 13
without. -/
def transactions (p : Params) (o : Options) : List Txn :=
  [.w p.regRowSize o.rowSize,
   .w p.regColSize o.colSize,
   .w p.regShutterLower (shutterLower o.shutter),
   .w p.regShutterUpper (shutterUpper o.shutter),
   .w p.regRowAddrMode (addrMode o.rowBin o.rowSkip),
   .w p.regColAddrMode (addrMode o.colBin o.colSkip),
   .rr p.regReadMode1,
   .rw p.regReadMode1 0#16 p.snapshotMask,
   .rr p.regReadMode2,
   .rw p.regReadMode2 (maskIf o.mirrorRow p.rowMirrorMask ||| maskIf o.mirrorCol p.colMirrorMask)
     (p.rowMirrorMask ||| p.colMirrorMask),
   .w p.regPixclk (maskIf o.pixclkInv p.pixclkInvMask ||| (o.pixclkDiv <<< p.pixclkDivLsb))] ++
  testPatternTxns p o ++
  [.rr p.regOutputControl,
   .rw p.regOutputControl chipEnableMask 0#16]

/-- CONFIGURE's refusals, in order (R177, R213, R217): sequencer Running or not Idle, then the selector. -/
def configureRefused (s : State) : Bool :=
  s.seq.isRunning || s.fsm != .idle || (s.opt.tpEnable && decide (s.opt.tpPattern > maxTpPattern))

/-- CONFIGURE (R177, R179): the list is computed once, from the options as they are now; the command then holds and
`seqFinish` supplies its response. -/
def execConfigure (s : State) : Outcome :=
  .next
    (if configureRefused s then respond .protocolViolation 0#32 s
    else hold .configure { s with seq := .running (transactions s.params s.opt) 0 0#16 })

/-- The context whose slot holds the CONFIGURE (R178, R195). DESIGN CHOICE (log 14): MAIN first where both hold one, a
state no run reaches. -/
def configureOwner (s : State) : Option Ctx :=
  if s.slot.main = some .configure then some .main
  else if s.slot.irq = some .configure then some .irq
  else none

/-- finish(code, id) (R195): record the result, return to SIdle, answer the held CONFIGURE. -/
def seqFinish (code : Code) (id : Byte) (s : State) : State :=
  let s1 := { s with result := ⟨code.num, id⟩, seq := .sIdle }
  match configureOwner s with
  | some c => respondTo c code (zextWord id) s1
  | none => s1

/-- advance(x) (R190). -/
def seqAdvance (txns : List Txn) (k : Nat) (x : Half) (s : State) : State :=
  if k + 1 = txns.length then seqFinish .ok 0#8 s else { s with seq := .running txns (k + 1) x }

/-- One transaction of the sequencer (R190): a failing RR is a CONFIGURATION_ERROR, a failing W or RW a
BUS_TRANSFER_ERROR (R194), and the first failure ends the sequence (R193). -/
def seqTransact (txns : List Txn) (k : Nat) (rmw : Half) (t : Txn) (s : State) : State :=
  match t with
  | .w id v =>
    let r := busWrite id v s
    if r.1 then seqAdvance txns k rmw r.2 else seqFinish .busTransferError id r.2
  | .rr id =>
    let r := busRead id s
    match r.1 with
    | some v => seqAdvance txns k v r.2
    | none => seqFinish .configurationError id r.2
  | .rw id set clear =>
    let r := busWrite id (rmwValue rmw set clear) s
    if r.1 then seqAdvance txns k rmw r.2 else seqFinish .busTransferError id r.2

/-- The sequencer's turn (R190): its next transaction while Running with k < |T|; else it has no enabled step. -/
def seqStep (s : State) : State :=
  match s.seq with
  | .sIdle => s
  | .running txns k rmw =>
    match txns[k]? with
    | some t => seqTransact txns k rmw t s
    | none => s

end Sys2Proof.Machine
end

