-- ==== Sys2Proof/Machine/Dispatch.lean ====
section
/-!
DEFINITION. One arm per command of the opcode map (30_encoding.md R94): its meaning.
-/
namespace Sys2Proof.Machine

/-- What a command does when it is issued by the context `s.ctx` (or re-examined, for a held WAIT_FRAME). -/
def exec (i : Instr) (s : State) : Host.Outcome State Fault Refusal :=
  match i with
  | .regRd offset => Sys2Proof.Machine.execRegRd offset s
  | .regWr offset data => Sys2Proof.Machine.execRegWr offset data s
  | .enable => Sys2Proof.Machine.execEnable s
  | .disable => Sys2Proof.Machine.execDisable s
  | .enableRx => Sys2Proof.Machine.execEnableRx s
  | .disableRx => Sys2Proof.Machine.execDisableRx s
  | .setIrqEn flag => Sys2Proof.Machine.execSetIrqEn flag s
  | .frameReady => Sys2Proof.Machine.execFrameReady s
  | .setTarget address => Sys2Proof.Machine.execSetTarget address s
  | .getTarget => Sys2Proof.Machine.execGetTarget s
  | .ack => Sys2Proof.Machine.execAck s
  | .arm buffer => Sys2Proof.Machine.execArm buffer s
  | .harvest next => Sys2Proof.Machine.execHarvest next s
  | .waitFrame timeout => Sys2Proof.Machine.execWaitFrame timeout s
  | .diag item => Sys2Proof.Machine.execDiag item s
  | .sregWr id value => Sys2Proof.Machine.execSregWr id value s
  | .sregRd id => Sys2Proof.Machine.execSregRd id s
  | .sregRmw id set clear => Sys2Proof.Machine.execSregRmw id set clear s
  | .setopt index value => Sys2Proof.Machine.execSetopt index value s
  | .configure => Sys2Proof.Machine.execConfigure s
  | .getopt index => Sys2Proof.Machine.execGetopt index s

end Sys2Proof.Machine
end

