-- ==== Sys2Proof/Machine/HostActs.lean ====
section
/-!
DEFINITION. What the host does besides issuing commands (60_exceptions.md R233): the reset event (70_reset_and_hazards.md
R240 to R242) and its reads and writes of frame memory (20_memory.md R71).
-/
namespace Sys2Proof.Machine

/-- The reset event (R240, R242): the block and the sensor take their reset values, FRAME_PTR a fresh draw (R29); frame
memory is unchanged; no response is delivered. What belongs to the host (its streams, the responses it has) stays:
DESIGN CHOICE (log 16). -/
def resetBlock (s : State) : State :=
  { State.atReset s.params s.nextWord with
    mem := s.mem
    ctx := s.ctx
    stream := s.stream
    hostActs := s.hostActs
    hostReads := s.hostReads
    responses := s.responses
    env := s.env.takeWord }

/-- One action of the host. -/
def hostAct (a : HostAct) (s : State) : State :=
  match a with
  | .reset => resetBlock s
  | .memWrite addr bytes => { s with mem := s.mem.writeBytes addr bytes }
  | .memRead addr len => { s with hostReads := s.hostReads ++ [⟨addr, s.mem.readBytes addr len⟩] }

/-- The host's turn: its next action, if it has one. -/
def hostStep (s : State) : State :=
  match s.hostActs with
  | [] => s
  | a :: rest => hostAct a { s with hostActs := rest }

end Sys2Proof.Machine
end

