-- ==== Sys2Proof/Machine/Port.lean ====
section
/-!
DEFINITION. The command port's turn on behalf of one context (60_exceptions.md R226, R227): re-examine the command its
slot holds, or take the next word of its stream into the empty slot, decode it and run it (10_state.md R40).
-/
namespace Sys2Proof.Machine

/-- The state in which a context runs a command: that context is the issuer. -/
def asCtx (c : Ctx) (s : State) : State := { s with ctx := c }

/-- The state in which a context issues the head of its stream. -/
def issue (c : Ctx) (rest : List CmdWord) (s : State) : State :=
  { s with ctx := c, stream := s.stream.set c rest }

/-- A command word: its command's meaning, or the response ILLEGAL_COMMAND (R95, R215). -/
def runWord (w : CmdWord) (s : State) : Outcome :=
  match decode w with
  | .ok i => exec i s
  | .error _ => .next (respond .illegalCommand 0#32 s)

/-- The port's turn for context `c`. A held WAIT_FRAME is evaluated again (R140); a held CONFIGURE waits for the
sequencer, whose last step answers it (R195; DEDUCED, log 22); with an empty slot and an empty stream the context has no step. -/
def portStep (c : Ctx) (s : State) : Outcome :=
  match s.slot.get c with
  | some (.waitFrame t) => exec (.waitFrame t) (asCtx c s)
  | some .configure => .next s
  | none =>
    match s.stream.get c with
    | [] => .next s
    | w :: rest => runWord w (issue c rest s)

/-- The turn of the agent drawn (R20, R227). -/
def agentStep (a : Agent) (s : State) : Outcome :=
  match a with
  | .port c => portStep c s
  | .engine => engineStep s
  | .sequencer => .next (seqStep s)
  | .host => .next (hostStep s)

/-- Place a command word so that MAIN issues it at the very next step: the next agent is MAIN's port, its slot is empty
and the word heads its stream. -/
def placeWord (w : CmdWord) (s : State) : State :=
  { s with
    env := { s.env with agents := .port .main :: s.env.agents }
    slot := s.slot.set .main none
    stream := s.stream.set .main (w :: s.stream.main) }

end Sys2Proof.Machine
end

