-- ==== Sys2Proof/Machine/Step.lean ====
section
/-!
DEFINITION. One step of the machine (20_memory.md R80, 60_exceptions.md R227): draw which agent moves, give it its turn.
-/
namespace Sys2Proof.Machine

/-- One atomic step in the one global order of all agents' steps. DESIGN CHOICE (log 5): which agent moves is a draw. -/
def step (s : State) : Host.Outcome State Fault Refusal :=
  agentStep s.nextAgent (s.withEnv s.env.takeAgent)

/-- `s` with the word `w` placed where the next step takes its command (30_encoding.md R91: one 64-bit word, whose bits
above `nbits` are zero in `w` itself). -/
def State.withFetchWord (s : State) (_nbits w : Nat) : State := placeWord (BitVec.ofNat 64 w) s

end Sys2Proof.Machine
end

