-- ==== Sys2Proof/Machine/Assembler.lean ====
section
/-!
DEFINITION. The assembly syntax and the pseudo-instructions (30_encoding.md R98, R99), on tokens: a line is an optional
context, a mnemonic and its operands in the order F8, V16, A32 (SREG_RMW: id, set, clear); names stand for register
offsets, option indices and sensor identifiers. A comment has no effect and is not kept.
-/
namespace Sys2Proof.Machine

/-- The pseudo-instructions (R99). -/
inductive Pseudo where
  | irqOn
  | irqOff
  | readStatus
  | clearStatus
  | rearm (next : Word)
  | setBinSkipRow (bin skip : Word)
  | setBinSkipCol (bin skip : Word)
deriving DecidableEq, Repr

/-- The commands a pseudo-instruction stands for (R99). Two commands are two commands, with no atomicity between. -/
def Pseudo.expand : Pseudo → List Instr
  | .irqOn => [.setIrqEn true]
  | .irqOff => [.setIrqEn false]
  | .readStatus => [.regRd .irqStatus]
  | .clearStatus => [.regWr .irqStatus 1#32]
  | .rearm next => [.harvest next]
  | .setBinSkipRow bin skip => [.setopt 3#8 bin, .setopt 4#8 skip]
  | .setBinSkipCol bin skip => [.setopt 5#8 bin, .setopt 6#8 skip]

/-- The fifteen sensor identifiers that have names (R8, R98). -/
inductive SensorName where
  | rowSize | colSize | shutterLower | shutterUpper | rowAddrMode | colAddrMode | readMode1 | readMode2 | pixclk
  | tpCtrl | tpRed | tpGreen | tpBlue | tpBarWidth | outputControl
deriving DecidableEq, Repr

/-- The identifier a name stands for in an instance. -/
def SensorName.id (p : Params) : SensorName → Byte
  | .rowSize => p.regRowSize
  | .colSize => p.regColSize
  | .shutterLower => p.regShutterLower
  | .shutterUpper => p.regShutterUpper
  | .rowAddrMode => p.regRowAddrMode
  | .colAddrMode => p.regColAddrMode
  | .readMode1 => p.regReadMode1
  | .readMode2 => p.regReadMode2
  | .pixclk => p.regPixclk
  | .tpCtrl => p.regTpCtrl
  | .tpRed => p.regTpRed
  | .tpGreen => p.regTpGreen
  | .tpBlue => p.regTpBlue
  | .tpBarWidth => p.regTpBarWidth
  | .outputControl => p.regOutputControl

/-- The option names (R38, R98). -/
inductive OptName where
  | rowSize | colSize | shutter | rowBin | rowSkip | colBin | colSkip | mirrorRow | mirrorCol | pixclkInv | pixclkDiv
  | tpEnable | tpPattern | tpRed | tpGreen | tpBlue | tpBarWidth
deriving DecidableEq, Repr

/-- The index of an option (R38). -/
def OptName.index : OptName → Nat
  | .rowSize => 0
  | .colSize => 1
  | .shutter => 2
  | .rowBin => 3
  | .rowSkip => 4
  | .colBin => 5
  | .colSkip => 6
  | .mirrorRow => 7
  | .mirrorCol => 8
  | .pixclkInv => 9
  | .pixclkDiv => 10
  | .tpEnable => 11
  | .tpPattern => 12
  | .tpRed => 13
  | .tpGreen => 14
  | .tpBlue => 15
  | .tpBarWidth => 16

/-- An operand: a number, or a name standing for one (R98). -/
inductive AsmOperand where
  | num (n : Nat)
  | reg (r : CtrlReg)
  | option (o : OptName)
  | sensor (r : SensorName)
deriving DecidableEq, Repr

/-- The number an operand stands for. DESIGN CHOICE (log 30): a name stands for its number in every operand place, also
where R98 names another kind of operand. -/
def AsmOperand.value (p : Params) : AsmOperand → Nat
  | .num n => n
  | .reg r => r.toBits.toNat
  | .option o => o.index
  | .sensor r => (r.id p).toNat

/-- The mnemonics of a line: the commands and the pseudo-instructions (ROW and COL belong to the mnemonic). -/
inductive AsmMnemonic where
  | regRd | regWr | enable | disable | enableRx | disableRx | setIrqEn | frameReady | setTarget | getTarget | ack
  | arm | harvest | waitFrame | diag | sregWr | sregRd | sregRmw | setopt | configure | getopt
  | irqOn | irqOff | readStatus | clearStatus | rearm | setBinSkipRow | setBinSkipCol
deriving DecidableEq, Repr

/-- One line: `[@ctx] MNEMONIC operand, operand` (R98). -/
structure AsmLine where
  ctx : Option Ctx
  mnemonic : AsmMnemonic
  operands : List AsmOperand
deriving DecidableEq, Repr

/-- A number as a field of `w` bits, if it fits. DESIGN CHOICE (log 27): a number that does not fit is no operand. -/
def asField (w n : Nat) : Option (BitVec w) := if n < 2 ^ w then some (BitVec.ofNat w n) else none

/-- The commands of a mnemonic and its operand values; none where the operands do not fit it. -/
def asmCommands : AsmMnemonic → List Nat → Option (List Instr)
  | .regRd, [o] => (asField 2 o).map fun o => [.regRd (.ofBits o)]
  | .regWr, [o, d] => do return [.regWr (.ofBits (← asField 2 o)) (← asField 32 d)]
  | .enable, [] => some [.enable]
  | .disable, [] => some [.disable]
  | .enableRx, [] => some [.enableRx]
  | .disableRx, [] => some [.disableRx]
  | .setIrqEn, [b] => (asField 1 b).map fun b => [.setIrqEn (b.getLsbD 0)]
  | .frameReady, [] => some [.frameReady]
  | .setTarget, [a] => (asField 32 a).map fun a => [.setTarget a]
  | .getTarget, [] => some [.getTarget]
  | .ack, [] => some [.ack]
  | .arm, [b] => (asField 32 b).map fun b => [.arm b]
  | .harvest, [n] => (asField 32 n).map fun n => [.harvest n]
  | .waitFrame, [t] => (asField 32 t).map fun t => [.waitFrame t]
  | .diag, [i] => (asField 8 i).map fun i => [.diag i]
  | .sregWr, [id, v] => do return [.sregWr (← asField 8 id) (← asField 16 v)]
  | .sregRd, [id] => (asField 8 id).map fun id => [.sregRd id]
  | .sregRmw, [id, s, c] => do return [.sregRmw (← asField 8 id) (← asField 16 s) (← asField 16 c)]
  | .setopt, [i, x] => do return [.setopt (← asField 8 i) (← asField 32 x)]
  | .configure, [] => some [.configure]
  | .getopt, [i] => (asField 8 i).map fun i => [.getopt i]
  | .irqOn, [] => some Pseudo.irqOn.expand
  | .irqOff, [] => some Pseudo.irqOff.expand
  | .readStatus, [] => some Pseudo.readStatus.expand
  | .clearStatus, [] => some Pseudo.clearStatus.expand
  | .rearm, [n] => (asField 32 n).map fun n => (Pseudo.rearm n).expand
  | .setBinSkipRow, [b, s] => do return (Pseudo.setBinSkipRow (← asField 32 b) (← asField 32 s)).expand
  | .setBinSkipCol, [b, s] => do return (Pseudo.setBinSkipCol (← asField 32 b) (← asField 32 s)).expand
  | _, _ => none

/-- A line's context (MAIN when not written, R98) and commands. -/
def assembleLine (p : Params) (l : AsmLine) : Option (Ctx × List Instr) :=
  (asmCommands l.mnemonic (l.operands.map (AsmOperand.value p))).map fun is => (l.ctx.getD .main, is)

/-- The command streams of a listing, per context (R98, R263). -/
def assemble (p : Params) : List AsmLine → Option (PerCtx (List CmdWord))
  | [] => some ⟨[], []⟩
  | l :: ls =>
    match assembleLine p l, assemble p ls with
    | some (c, is), some rest => some (rest.set c (is.map encode ++ rest.get c))
    | _, _ => none

end Sys2Proof.Machine
end

