-- ==== Sys2Proof/Safety.lean ====
section
/-!
DEFINITION. What claims are stated in: the invariants of the machine, when two states have the same block state, runs and
the named premises the spec gives (BUS_OK, ENGINE_DELIVERS, fairness), the end of a run and what is observed there.
-/
namespace Sys2Proof.Machine

/-! ### Invariants -/

/-- Capturing: at most FRAME_PIXELS pixels written (R36), the base passed START's checks (R76, R151), the gate is open
(R152) and no completion is pending (R150, R224). -/
def EngineInv (s : State) : Prop :=
  match s.eng with
  | .waiting => True
  | .capturing base n =>
    n ≤ framePixels ∧ baseAligned base = true ∧ baseInRange base = true ∧ s.pwr = true ∧ s.rx = true ∧ s.pend = false

/-- R35 (1), and a ready frame has an address (R34). -/
def SessionInv (s : State) : Prop :=
  (s.armed = none ↔ s.fsm = .idle) ∧ (s.ready = true → s.last.isSome = true)

/-- Exactly one context holds a CONFIGURE. -/
def HoldsConfigure (s : State) (c : Ctx) : Prop :=
  s.slot.get c = some .configure ∧ ∀ d, d ≠ c → s.slot.get d ≠ some .configure

/-- A Running sequencer was started by a CONFIGURE that still holds (R178), makes the transactions of the options as they
are (R179), has one left (R190), and the FSM is Idle (R177); with the sequencer SIdle no CONFIGURE is held (R195). -/
def SequencerInv (s : State) : Prop :=
  match s.seq with
  | .sIdle => ∀ c, s.slot.get c ≠ some .configure
  | .running txns k _ =>
    txns = transactions s.params s.opt ∧ k < txns.length ∧ s.fsm = .idle ∧ ∃ c, HoldsConfigure s c

/-- seq.result's code is OK, BUS_TRANSFER_ERROR or CONFIGURATION_ERROR (R37, R194, R195). -/
def ResultInv (s : State) : Prop := s.result.code.toNat ≤ 2

/-- PIXCLK_DIV fits its width (R38, R175). The other options fit by their types. -/
def OptionInv (s : State) : Prop := s.opt.pixclkDiv.toNat < 2 ^ s.params.pixclkDivBits

/-- The invariant of the machine; the instance is admissible (R8, R214) and memory is canonical. -/
def StateInv (s : State) : Prop :=
  s.params.wf = true ∧ s.mem.wf ∧ EngineInv s ∧ SessionInv s ∧ SequencerInv s ∧ ResultInv s ∧ OptionInv s

/-- The memory log ends with the pixels written so far of the frame in progress, in index order (R81, R152). -/
def CaptureLogInv (s : State) : Prop :=
  match s.eng with
  | .waiting => True
  | .capturing base n => ∃ before, s.memLog.map MemEntry.addr = before ++ (List.range n).map (pixelAddr base)

/-! ### Comparing states -/

/-- `t` differs from `s` at most in what is not the block's, the sensor's or memory's: the slots, the model's inputs and
the responses. -/
def SameBlock (s t : State) : Prop :=
  t = { s with slot := t.slot, ctx := t.ctx, stream := t.stream, hostActs := t.hostActs, hostReads := t.hostReads,
               responses := t.responses, env := t.env }

/-- `s` after the response (code, data) is delivered to the issuing context and its slot emptied (R210). -/
def answered (code : Code) (data : Word) (s : State) : State :=
  { s with slot := s.slot.set s.ctx none
           responses := s.responses.set s.ctx (s.responses.get s.ctx ++ [⟨code, data⟩]) }

/-- `s` after the sequencer finishes with (code, id) and answers the CONFIGURE context `c` holds (R195). -/
def finished (c : Ctx) (code : Code) (id : Byte) (s : State) : State :=
  { s with result := ⟨code.num, id⟩
           seq := .sIdle
           slot := s.slot.set c none
           responses := s.responses.set c (s.responses.get c ++ [⟨code, id.setWidth 32⟩]) }

/-- `s` after transaction `k` of `txns` succeeds, `x` being held for a write half (R190 `advance`). -/
def advanced (c : Ctx) (txns : List Txn) (k : Nat) (x : Half) (s : State) : State :=
  if k + 1 = txns.length then finished c .ok 0#8 s else { s with seq := .running txns (k + 1) x }

/-- The identifier a transaction addresses. -/
def Txn.target : Txn → Byte
  | .w id _ => id
  | .rr id => id
  | .rw id _ _ => id

/-- The error a failing transaction is reported as (R194). -/
def Txn.failure : Txn → Code
  | .w _ _ => .busTransferError
  | .rr _ => .configurationError
  | .rw _ _ _ => .busTransferError

/-! ### The capture engine on its own -/

/-- `k` steps of the capture engine with no other agent's step between. -/
def engineRun : Nat → State → Outcome
  | 0, s => .next s
  | k + 1, s =>
    match engineStep s with
    | .next t => engineRun k t
    | .fault f => .fault f
    | .refused r => .refused r

/-- The pixel the engine draws `n` draws from now. -/
def pixelDraw (s : State) (n : Nat) : Half := (s.env.pixels.drop n).headD (Config.freeHalf (s.env.drawn + n))

/-! ### Runs and the premises the spec names -/

/-- The state after `n` steps from a launch (R263); none once a step has faulted. The draws are in the state or are free
values, so a launch has one run for each supply of draws. -/
def stateAt (launch : State) : Nat → Option State
  | 0 => some launch
  | n + 1 =>
    match stateAt launch n with
    | none => none
    | some t =>
      match step t with
      | .next u => some u
      | .fault _ => none
      | .refused _ => none

/-- A state from the `n`-th on at which `P` holds. -/
def Eventually (launch : State) (n : Nat) (P : State → Prop) : Prop :=
  ∃ m t, n ≤ m ∧ stateAt launch m = some t ∧ P t

/-- The run faults. -/
def Faulted (launch : State) : Prop := ∃ n, stateAt launch n = none

/-- BUS_OK (R162): every success draw the run takes is true. Every transaction takes one and logs it (R160, R161), both
those of an SREG_RMW included, so the draws of a step are the `ok` items of what it adds to the bus log. -/
def BusOk (launch : State) : Prop :=
  ∀ n t u, stateAt launch n = some t → step t = .next u → ∀ e ∈ u.busLog.drop t.busLog.length, e.ok = true

/-- The sequencer is weakly fair (R190, R227): while it runs, its turn comes. -/
def SequencerFair (launch : State) : Prop :=
  ∀ n t, stateAt launch n = some t → t.seq.isRunning = true →
    Eventually launch n (fun u => u.nextAgent = .sequencer) ∨ Faulted launch

/-- A context with a command to issue or to re-examine is given its turn (R227). -/
def CommandsFair (launch : State) : Prop :=
  ∀ n t c, stateAt launch n = some t → (t.slot.get c).isSome = true ∨ t.stream.get c ≠ [] →
    Eventually launch n (fun u => u.nextAgent = .port c) ∨ Faulted launch

/-- The next step is START (R150), whether it latches its base or faults on it. -/
def Starts (t : State) : Prop := t.nextAgent = .engine ∧ t.startEnabled = true

/-- The next step is COMPLETE (R154). -/
def Completes (t : State) : Prop := t.nextAgent = .engine ∧ ∃ base, t.eng = .capturing base framePixels

/-- The next step ends the frame in progress without a COMPLETE (R153, R240). -/
def Aborts (t : State) : Prop :=
  t.eng.isCapturing = true ∧ ¬ Completes t ∧ ∃ u, step t = .next u ∧ u.eng = .waiting

/-- ENGINE_DELIVERS (R155): every Capturing state eventually reaches COMPLETE unless aborted, and every state in which
START is enabled eventually STARTs. -/
def EngineDelivers (launch : State) : Prop :=
  (∀ n t, stateAt launch n = some t → t.eng.isCapturing = true →
    Eventually launch n (fun u => Completes u ∨ Aborts u)) ∧
  (∀ n t, stateAt launch n = some t → t.startEnabled = true → Eventually launch n Starts)

/-! ### The end of a run (R263) -/

/-- How many responses a context is owed: one for each word still to be issued and one for a held command. -/
def State.owed (s : State) (c : Ctx) : Nat :=
  (s.stream.get c).length + if (s.slot.get c).isSome then 1 else 0

/-- The context has received as many responses since the launch as it was owed there. A command that a reset discards
(R240) never receives its response. DEDUCED (log 29). -/
def allAnswered (launch s : State) (c : Ctx) : Bool :=
  (s.responses.get c).length == (launch.responses.get c).length + launch.owed c

/-- Every command of both streams has received its response and the sequencer is SIdle. -/
def runEnded (launch s : State) : Bool :=
  allAnswered launch s .main && allAnswered launch s .irq && !s.seq.isRunning

/-- What is observed at the end of a run. -/
structure Observation where
  responses : PerCtx (List Response)
  busLog : List BusEntry
  memLog : List MemEntry
  rx : Bool
  pwr : Bool
  ie : Bool
  pend : Bool
  fp : Word
  fsm : Fsm
  armed : Option Word
  last : Option Word
  ready : Bool
  eng : Engine
  seq : Sequencer
  result : SeqResult
  opt : Options
  slot : PerCtx (Option Held)
  sr : Vector Half 256
  mem : Memory
deriving DecidableEq, Repr

/-- The responses a context has received since the launch. -/
def responsesSince (launch s : State) (c : Ctx) : List Response :=
  (s.responses.get c).drop (launch.responses.get c).length

/-- The observation of a state of the run. -/
def observe (launch s : State) : Observation :=
  { responses := ⟨responsesSince launch s .main, responsesSince launch s .irq⟩, busLog := s.busLog, memLog := s.memLog,
    rx := s.rx, pwr := s.pwr, ie := s.ie, pend := s.pend, fp := s.fp, fsm := s.fsm, armed := s.armed, last := s.last,
    ready := s.ready, eng := s.eng, seq := s.seq, result := s.result, opt := s.opt, slot := s.slot, sr := s.sr,
    mem := s.mem }

/-- How far a run has come. -/
inductive RunResult where
  | ended (o : Observation)
  | faulted (f : Fault)
  | refused (r : Refusal)
  | unfinished (s : State)
deriving DecidableEq, Repr

/-- A state of the run: the end, if it is one. -/
def arrive (launch s : State) : RunResult :=
  if runEnded launch s then .ended (observe launch s) else .unfinished s

/-- The run from a launch, for at most `n` steps. It ends at the first state that meets R263's condition and takes no step
from there; a run that records a fault has no end state. -/
def runFor (launch : State) : Nat → RunResult
  | 0 => arrive launch launch
  | n + 1 =>
    match runFor launch n with
    | .unfinished t =>
      match step t with
      | .next u => arrive launch u
      | .fault f => .faulted f
      | .refused r => .refused r
    | r => r

/-- A run that never ends and never faults (R216, R263). -/
def Hangs (launch : State) : Prop := ∀ n, ∃ t, runFor launch n = .unfinished t

end Sys2Proof.Machine
end

