-- ==== Sys2Proof/Certificates/Slice0/Obligations.lean ====
section
/-!
DEFINITION. The statements for the provers, each from the numbered rules of spec/ its docstring names. `answered`,
`finished` and `SameBlock` are those of Safety.lean. A draw (`nextBusOk`, `nextWord`, …) is the head of a list the state
holds or, when that is empty, a free value (log 3, the model's choice): a statement about every state holds for every
value of it.
-/

open Sys2Proof Sys2Proof.Machine

/-! ### Encoding -/

/-- A few words written out from 30_encoding.md R94 and 95_test_vectors.md §2.1. -/
def Obligations.SampleWordsDecode : Prop :=
  decode 0x0103000000000000#64 = .ok (.regRd .framePtr) ∧
  decode 0x0203000000000005#64 = .ok (.regWr .framePtr 5#32) ∧
  decode 0x0204000000000000#64 = .error (.mustBeZero 0x02#8) ∧
  decode 0x1401000000000000#64 = .ok (.setIrqEn true) ∧
  decode 0x2000000000100000#64 = .ok (.arm 0x00100000#32) ∧
  decode 0x230E000000000000#64 = .error (.diagItem 14#8) ∧
  decode 0x3207000200000000#64 = .ok (.sregRmw 0x07#8 0x0002#16 0#16) ∧
  decode 0x4010000000000040#64 = .ok (.setopt 16#8 0x40#32) ∧
  decode 0x4011000000000000#64 = .error (.optIndex 17#8) ∧
  decode 0x0300000000000000#64 = .error (.unassignedOpcode 0x03#8)

/-- R91, R92, R94: every well-formed command, with every operand at every value, decodes back from its word. -/
def Obligations.EncodedCommandsDecodeBack : Prop :=
  ∀ i : Instr, i.WellFormed → decode (encode i) = .ok i

/-- R91 to R95: a word that decodes is the one word of its command, and the command is well-formed. -/
def Obligations.DecodedWordsEncodeBack : Prop :=
  ∀ (w : CmdWord) (i : Instr), decode w = .ok i → encode i = w ∧ i.WellFormed

/-- R94: at most one row matches any word, and the command a word decodes to is of a row the word selects. -/
def Obligations.AtMostOneRowMatches : Prop :=
  (∀ (w : CmdWord) (r1 r2 : Row), r1 ∈ opcodeTable → r2 ∈ opcodeTable →
    r1.matchesWord w = true → r2.matchesWord w = true → r1 = r2) ∧
  (∀ (w : CmdWord) (i : Instr), decode w = .ok i → i.row ∈ opcodeTable ∧ i.row.matchesWord w = true)

/-- R95: a word is illegal exactly in cases (a), (b) and (c), and then completes at once with (ILLEGAL_COMMAND, 0), whose
code is 6, and changes no state. -/
def Obligations.IllegalWordsAreTheThreeCases : Prop :=
  ∀ w : CmdWord,
    ((∃ e, decode w = .error e) ↔
      ((∀ r ∈ opcodeTable, r.matchesWord w = false) ∨
       (w.opc = 0x23#8 ∧ 13#8 < w.f8) ∨
       ((w.opc = 0x40#8 ∨ w.opc = 0x42#8) ∧ 16#8 < w.f8))) ∧
    (∀ s : State, (∃ e, decode w = .error e) → runWord w s = .next (answered .illegalCommand 0#32 s)) ∧
    Code.illegalCommand.num = 6#8

/-! ### Steps -/

/-- R40, R226: when a context's turn comes, its slot is empty and the head of its stream decodes to a command, the step is
that command's meaning, with the word taken from the stream, the scheduling draw used and the context the issuer. -/
def Obligations.StepRunsTheDecodedCommand : Prop :=
  ∀ (s : State) (c : Ctx) (w : CmdWord) (rest : List CmdWord) (i : Instr),
    s.nextAgent = .port c → s.slot.get c = none → s.stream.get c = w :: rest → decode w = .ok i →
    step s = exec i { s with ctx := c, stream := s.stream.set c rest, env := s.env.takeAgent }

/-- R215: an illegal word is answered (ILLEGAL_COMMAND, 0) in the step that issues it and changes no state of the block;
the context's slot is left empty, so that it may issue its next command. -/
def Obligations.IllegalWordStepChangesNothing : Prop :=
  ∀ (s : State) (c : Ctx) (w : CmdWord) (rest : List CmdWord) (e : DecodeError),
    s.nextAgent = .port c → s.slot.get c = none → s.stream.get c = w :: rest → decode w = .error e →
    ∃ t, step s = .next t ∧ SameBlock s t ∧ t.slot = s.slot ∧ t.stream = s.stream.set c rest ∧
      t.responses = s.responses.set c (s.responses.get c ++ [⟨.illegalCommand, 0#32⟩])

/-- R140, R195: at its context's turn a held WAIT_FRAME is evaluated again, and a held CONFIGURE is left to the
sequencer (log 22, the model's reading); the word at the head of the stream is not taken. With an empty slot and an empty
stream the context has no enabled step, and its turn changes nothing but the scheduling draw (log 5, the model's choice). -/
def Obligations.HeldCommandsAreReexamined : Prop :=
  ∀ (s : State) (c : Ctx), s.nextAgent = .port c →
    (∀ τ, s.slot.get c = some (.waitFrame τ) →
      step s = exec (.waitFrame τ) { s with ctx := c, env := s.env.takeAgent }) ∧
    (s.slot.get c = some .configure → step s = .next { s with env := s.env.takeAgent }) ∧
    (s.slot.get c = none → s.stream.get c = [] → step s = .next { s with env := s.env.takeAgent })

/-- R20, R190, R233: the other agents' turns are the engine's step, one sequencer transaction, and the host's next action. An
agent with no enabled step changes nothing but the scheduling draw (log 5, the model's choice): a sequencer that is SIdle, a
host with no action left, and, in states no run reaches (log 15), a sequencer with no transaction left and an engine past
its last pixel. -/
def Obligations.OtherAgentsTakeTheirTurns : Prop :=
  ∀ s : State,
    (s.nextAgent = .engine → step s = engineStep { s with env := s.env.takeAgent }) ∧
    (s.nextAgent = .sequencer → step s = .next (seqStep { s with env := s.env.takeAgent })) ∧
    (s.nextAgent = .sequencer → s.seq = .sIdle → step s = .next { s with env := s.env.takeAgent }) ∧
    (∀ txns k rmw, s.nextAgent = .sequencer → s.seq = .running txns k rmw → txns.length ≤ k →
      step s = .next { s with env := s.env.takeAgent }) ∧
    (∀ base n, s.nextAgent = .engine → s.eng = .capturing base n → 76800 < n →
      step s = .next { s with env := s.env.takeAgent }) ∧
    (∀ a rest, s.nextAgent = .host → s.hostActs = a :: rest →
      step s = .next (hostAct a { s with hostActs := rest, env := s.env.takeAgent })) ∧
    (s.nextAgent = .host → s.hostActs = [] → step s = .next { s with env := s.env.takeAgent })

/-! ### Reset -/

/-- R43: the state after reset, for every instance and every drawn FRAME_PTR; the machine starts in such a state. -/
def Obligations.ResetLeavesTheStatedValues : Prop :=
  (∀ (p : Params) (fp : Word),
    (State.atReset p fp).rx = false ∧ (State.atReset p fp).pwr = false ∧ (State.atReset p fp).ie = false ∧
    (State.atReset p fp).pend = false ∧ (State.atReset p fp).fp = fp ∧ (State.atReset p fp).irq = false ∧
    (State.atReset p fp).fsm = .idle ∧ (State.atReset p fp).armed = none ∧ (State.atReset p fp).last = none ∧
    (State.atReset p fp).ready = false ∧ (State.atReset p fp).eng = .waiting ∧ (State.atReset p fp).seq = .sIdle ∧
    (State.atReset p fp).result = ⟨0#8, 0#8⟩ ∧
    (∀ i : Byte, i ≤ 16#8 → (State.atReset p fp).opt.get i = some 0#32) ∧
    (∀ c, (State.atReset p fp).slot.get c = none) ∧
    (State.atReset p fp).busLog = [] ∧ (State.atReset p fp).memLog = [] ∧
    (∀ id : Byte, (State.atReset p fp).readSr id = p.sensorDefault[id.toNat]'id.isLt)) ∧
  ∃ (p : Params) (fp : Word), State.reset = State.atReset p fp

/-- R240: the reset event, in any state: the slots are emptied with no response, the sequencer and the engine stop without
a COMPLETE, every register returns to its reset value, FRAME_PTR being a fresh draw, and frame memory is unchanged. That
the responses already delivered stay is the model's choice (log 16). -/
def Obligations.ResetEventInAnyState : Prop :=
  ∀ (s : State) (rest : List HostAct), s.hostActs = .reset :: rest →
    (hostStep s).slot = ⟨none, none⟩ ∧ (hostStep s).responses = s.responses ∧
    (hostStep s).seq = .sIdle ∧ (hostStep s).result = ⟨0#8, 0#8⟩ ∧ (hostStep s).eng = .waiting ∧
    (hostStep s).rx = false ∧ (hostStep s).pwr = false ∧ (hostStep s).pend = false ∧ (hostStep s).ie = false ∧
    (hostStep s).irq = false ∧
    (hostStep s).fsm = .idle ∧ (hostStep s).armed = none ∧ (hostStep s).last = none ∧ (hostStep s).ready = false ∧
    (hostStep s).fp = s.nextWord ∧ (hostStep s).opt = Options.reset ∧
    (hostStep s).sr = s.params.sensorDefault ∧ (hostStep s).mem = s.mem ∧
    (hostStep s).busLog = [] ∧ (hostStep s).memLog = [] ∧ (hostStep s).hostActs = rest

/-- The invariant of Safety.lean holds at reset (its admissible instance is the model's own: log 2). -/
def Obligations.ResetMeetsTheInvariant : Prop := StateInv State.reset

/-- R35, R36, R38, R76, R152, R177 to R179: every step of every agent, from every state that meets the invariant, reaches a
state that meets it. -/
def Obligations.EveryStepKeepsTheInvariant : Prop :=
  ∀ s t : State, StateInv s → step s = .next t → StateInv t

/-- R74, R81, R152: every step keeps the log of the frame in progress: its pixels, in index order, are the last writes of
the engine. -/
def Obligations.FramePixelsAreLoggedInOrder : Prop :=
  ∀ s t : State, CaptureLogInv s → step s = .next t → CaptureLogInv t

/-- R21, R75: no step changes an implementation parameter. -/
def Obligations.ParametersNeverChange : Prop :=
  ∀ s t : State, step s = .next t → t.params = s.params

/-! ### Rules about the whole machine -/

/-- R220: PEND is set by the engine's COMPLETE step, and by nothing else. -/
def Obligations.PendIsSetOnlyByComplete : Prop :=
  (∀ s t : State, step s = .next t → s.pend = false → t.pend = true →
    s.nextAgent = .engine ∧ ∃ base, s.eng = .capturing base framePixels) ∧
  (∀ (s : State) (base : Word), s.eng = .capturing base framePixels →
    ∃ t, engineStep s = .next t ∧ t.pend = true)

/-- R222: what clears PEND, and that nothing else but reset does. -/
def Obligations.PendIsClearedOnlyByTheList : Prop :=
  (∀ (i : Instr) (s t : State), exec i s = .next t → s.pend = true → t.pend = false →
    (∃ d, i = .regWr .irqStatus d ∧ d.getLsbD 0 = true) ∨ i = .ack ∨
    (s.params.fpWriteAcks = true ∧ ((∃ a, i = .setTarget a) ∨ ∃ d, i = .regWr .framePtr d)) ∨
    (∃ b, i = .arm b) ∨ (∃ n, i = .harvest n)) ∧
  (∀ (d : Word) (s t : State), exec (.regWr .irqStatus d) s = .next t → d.getLsbD 0 = true → t.pend = false) ∧
  (∀ s t : State, exec .ack s = .next t → t.pend = false) ∧
  (∀ (a : Word) (s t : State), s.params.fpWriteAcks = true →
    exec (.setTarget a) s = .next t ∨ exec (.regWr .framePtr a) s = .next t → t.pend = false) ∧
  (∀ (b : Word) (s t : State), exec (.arm b) s = .next t ∨ exec (.harvest b) s = .next t →
    t.pend = false ∨ SameBlock s t) ∧
  (∀ s t : State, engineStep s = .next t → s.pend = true → t.pend = true) ∧
  (∀ s : State, (seqStep s).pend = s.pend) ∧
  (∀ (s : State) (a : HostAct), (hostAct a s).pend = s.pend ∨ a = .reset)

/-- R130, R240: the FSM moves only as its diagram says, and to Idle by a reset. -/
def Obligations.FsmMovesOnlyByTheDiagram : Prop :=
  (∀ (i : Instr) (s t : State), exec i s = .next t →
    t.fsm = s.fsm ∨
    ((∃ b, i = .arm b) ∧ s.fsm ≠ .draining ∧ t.fsm = .armed) ∨
    ((∃ n, i = .harvest n) ∧ s.fsm = .draining ∧ t.fsm = .armed) ∨
    (i = .disable ∧ t.fsm = .idle)) ∧
  (∀ s t : State, engineStep s = .next t →
    t.fsm = s.fsm ∨ (s.fsm = .armed ∧ t.fsm = .draining ∧ ∃ base, s.eng = .capturing base framePixels)) ∧
  (∀ s : State, (seqStep s).fsm = s.fsm) ∧
  (∀ (s : State) (a : HostAct), (hostAct a s).fsm = s.fsm ∨ (a = .reset ∧ (hostAct a s).fsm = .idle))

/-- R71, R233: inside the block only the PIXEL step writes frame memory, two bytes at base + 2n. A host write of up to 2^32
bytes stores each of them, at addresses modulo 2^32, and changes nothing else; a host read returns at each address the byte
written there and changes nothing but the record of it (its width and that record are the model's choice: logs 16, 19). -/
def Obligations.OnlyPixelStepsWriteFrameMemory : Prop :=
  (∀ (i : Instr) (s t : State), exec i s = .next t → t.mem = s.mem ∧ t.memLog = s.memLog) ∧
  (∀ s : State, (seqStep s).mem = s.mem ∧ (seqStep s).memLog = s.memLog) ∧
  (∀ s t : State, engineStep s = .next t →
    (t.mem = s.mem ∧ t.memLog = s.memLog) ∨
    ∃ base n, s.eng = .capturing base n ∧ n < framePixels ∧
      t.memLog = s.memLog ++ [⟨pixelAddr base n, pixelToBytes s.params.pixelEndian s.nextPixel⟩] ∧
      ∀ x, x ≠ (pixelAddr base n).toNat → x ≠ (pixelAddr base n + 1#32).toNat → t.mem.read x = s.mem.read x) ∧
  (∀ (s : State) (a : Word) (bytes : List Byte), bytes.length ≤ 2 ^ 32 →
    hostAct (.memWrite a bytes) s = { s with mem := (hostAct (.memWrite a bytes) s).mem } ∧
    (∀ k b, bytes[k]? = some b →
      (hostAct (.memWrite a bytes) s).mem.read (a + BitVec.ofNat 32 k).toNat = some b) ∧
    ∀ x, (∀ k, k < bytes.length → x ≠ (a + BitVec.ofNat 32 k).toNat) →
      (hostAct (.memWrite a bytes) s).mem.read x = s.mem.read x) ∧
  (∀ (s : State) (a : Word) (len : Nat),
    ∃ bytes, hostAct (.memRead a len) s = { s with hostReads := s.hostReads ++ [⟨a, bytes⟩] } ∧ bytes.length = len ∧
      ∀ k b, k < len → s.mem.read (a + BitVec.ofNat 32 k).toNat = some b → bytes[k]? = some b)

/-- R158: the content of frame memory never affects the block: two states that differ in it take the same step, and still
differ at most in it and in what the host's reads returned. -/
def Obligations.FrameMemoryNeverAffectsTheBlock : Prop :=
  ∀ (s : State) (m : Memory),
    match step s, step { s with mem := m } with
    | .next t, .next u => u = { t with mem := u.mem, hostReads := u.hostReads }
    | .fault f, .fault g => f = g
    | _, _ => False

/-- R39, R160, R161: among the commands only SREG_WR and SREG_RMW change the sensor's registers and only the SREG commands
use the bus; the engine does neither. -/
def Obligations.OnlyBusCommandsReachTheSensor : Prop :=
  (∀ (i : Instr) (s t : State), exec i s = .next t →
    (∀ id v, i ≠ .sregWr id v) → (∀ id a b, i ≠ .sregRmw id a b) →
    t.sr = s.sr ∧ ((∀ id, i ≠ .sregRd id) → t.busLog = s.busLog)) ∧
  (∀ s t : State, engineStep s = .next t → t.sr = s.sr ∧ t.busLog = s.busLog)

/-- R178: CONFIGURE is the only command that starts the sequencer, and then it holds in its context's slot; no other agent
starts it. -/
def Obligations.OnlyConfigureStartsTheSequencer : Prop :=
  (∀ (i : Instr) (s t : State), exec i s = .next t → s.seq.isRunning = false → t.seq.isRunning = true →
    i = .configure ∧ t.slot.get s.ctx = some .configure) ∧
  (∀ s t : State, engineStep s = .next t → t.seq = s.seq) ∧
  (∀ s : State, s.seq.isRunning = false → (seqStep s).seq = s.seq) ∧
  (∀ (s : State) (a : HostAct), (hostAct a s).seq = s.seq ∨ (hostAct a s).seq = .sIdle)

/-- R212, R213: a command answered PROTOCOL_VIOLATION changes nothing and takes no draw, its data is 0, and it is one of
the seven commands R213 lists. -/
def Obligations.ProtocolViolationChangesNothing : Prop :=
  ∀ (i : Instr) (s t : State) (d : Word), exec i s = .next t →
    t.responses.get s.ctx = s.responses.get s.ctx ++ [⟨.protocolViolation, d⟩] →
    t = answered .protocolViolation 0#32 s ∧ d = 0#32 ∧
      ((∃ b, i = .arm b) ∨ (∃ n, i = .harvest n) ∨ (∃ id v, i = .sregWr id v) ∨ (∃ id, i = .sregRd id) ∨
       (∃ id a b, i = .sregRmw id a b) ∨ (∃ k x, i = .setopt k x) ∨ i = .configure)

/-- R226: a command leaves the other context's slot and responses alone, and every stream and host item. -/
def Obligations.CommandsTouchOnlyTheirOwnContext : Prop :=
  ∀ (i : Instr) (s t : State), exec i s = .next t →
    (∀ c, c ≠ s.ctx → t.slot.get c = s.slot.get c ∧ t.responses.get c = s.responses.get c) ∧
    t.ctx = s.ctx ∧ t.stream = s.stream ∧ t.hostActs = s.hostActs ∧ t.hostReads = s.hostReads

/-- R210, R216: every command, in every state, answers a next state: either it delivers exactly one response and leaves its
slot empty, or it is WAIT_FRAME or CONFIGURE and holds with no response. R211: the numbers of the response codes. -/
def Obligations.EveryCommandRespondsOnceOrHolds : Prop :=
  (∀ (i : Instr) (s : State), ∃ t, exec i s = .next t ∧
    ((∃ r, t.responses = s.responses.set s.ctx (s.responses.get s.ctx ++ [r]) ∧ t.slot = s.slot.set s.ctx none) ∨
     (t.responses = s.responses ∧
       ((∃ τ, i = .waitFrame τ ∧ t.slot = s.slot.set s.ctx (some (.waitFrame τ))) ∨
        (i = .configure ∧ t.slot = s.slot.set s.ctx (some .configure)))))) ∧
  Code.ok.num = 0#8 ∧ Code.busTransferError.num = 1#8 ∧ Code.configurationError.num = 2#8 ∧
  Code.protocolViolation.num = 3#8 ∧ Code.timeout.num = 4#8 ∧ Code.cancelled.num = 5#8 ∧
  Code.illegalCommand.num = 6#8

/-! ### Controller register commands -/

/-- R109, R110: REG_WR at each offset. Closing the gate aborts a frame in progress; an FP write keeps the latched base. -/
def Obligations.RegWrWritesEachRegister : Prop :=
  ∀ (d : Word) (s : State),
    exec (.regWr .ctrl d) s = .next (answered .ok 0#32
      { s with rx := d.getLsbD 0, pwr := d.getLsbD 1,
               eng := if d.getLsbD 0 && d.getLsbD 1 then s.eng else .waiting }) ∧
    exec (.regWr .irqMask d) s = .next (answered .ok 0#32 { s with ie := d.getLsbD 0 }) ∧
    exec (.regWr .irqStatus d) s = .next (answered .ok 0#32 { s with pend := s.pend && !d.getLsbD 0 }) ∧
    exec (.regWr .framePtr d) s = .next (answered .ok 0#32
      { s with fp := d, pend := s.pend && !s.params.fpWriteAcks })

/-- R28, R111: REG_RD at each offset returns the defined bits, draws for the reserved ones (all from one 32-bit draw:
log 25, the model's choice), and changes nothing else. -/
def Obligations.RegRdReturnsEachRegister : Prop :=
  ∀ s : State,
    (∃ d, exec (.regRd .ctrl) s = .next (answered .ok d { s with env := s.env.takeWord }) ∧
      d.getLsbD 0 = s.rx ∧ d.getLsbD 1 = s.pwr ∧ ∀ k, 2 ≤ k → d.getLsbD k = s.nextWord.getLsbD k) ∧
    (∃ d, exec (.regRd .irqMask) s = .next (answered .ok d { s with env := s.env.takeWord }) ∧
      d.getLsbD 0 = s.ie ∧ ∀ k, 1 ≤ k → d.getLsbD k = s.nextWord.getLsbD k) ∧
    (∃ d, exec (.regRd .irqStatus) s = .next (answered .ok d { s with env := s.env.takeWord }) ∧
      d.getLsbD 0 = s.pend ∧ ∀ k, 1 ≤ k → d.getLsbD k = s.nextWord.getLsbD k) ∧
    exec (.regRd .framePtr) s = .next (answered .ok s.fp s)

/-- R112: ENABLE sets both control bits, opens the gate, aborts nothing and leaves the FSM alone. -/
def Obligations.EnableOpensTheGate : Prop :=
  ∀ s : State, exec .enable s = .next (answered .ok 0#32 { s with rx := true, pwr := true })

/-- R113: DISABLE clears both control bits, aborts a frame in progress and returns the handoff to Idle. -/
def Obligations.DisableReturnsToIdle : Prop :=
  ∀ s : State, exec .disable s = .next (answered .ok 0#32
    { s with rx := false, pwr := false, eng := .waiting, fsm := .idle, armed := none })

/-- R114, R115: ENABLE_RX and DISABLE_RX write the receive bit and keep the power bit; a write that leaves the gate closed
leaves the engine Waiting. -/
def Obligations.ReceiveGateCommandsKeepPower : Prop :=
  ∀ s : State,
    exec .enableRx s = .next (answered .ok 0#32 { s with rx := true, eng := if s.pwr then s.eng else .waiting }) ∧
    exec .disableRx s = .next (answered .ok 0#32 { s with rx := false, eng := .waiting })

/-- R30, R116: SET_IRQ_EN writes IE; the line follows at once, and PEND is kept. -/
def Obligations.SetIrqEnWritesTheMask : Prop :=
  ∀ (b : Bool) (s : State), ∃ t, exec (.setIrqEn b) s = .next t ∧
    t = answered .ok 0#32 { s with ie := b } ∧ t.irq = (s.pend && b)

/-- R117, R119: FRAME_READY returns PEND and GET_TARGET returns FP; neither changes anything. -/
def Obligations.ReadAccessorsReturnTheirRegister : Prop :=
  ∀ s : State,
    exec .frameReady s = .next (answered .ok (if s.pend then 1#32 else 0#32) s) ∧
    exec .getTarget s = .next (answered .ok s.fp s)

/-- R29, R118: SET_TARGET writes FP and acknowledges only when FP_WRITE_ACKS; the session and the engine are kept. -/
def Obligations.SetTargetWritesTheFramePointer : Prop :=
  ∀ (a : Word) (s : State),
    exec (.setTarget a) s = .next (answered .ok 0#32 { s with fp := a, pend := s.pend && !s.params.fpWriteAcks })

/-- R120: ACK clears PEND, so the line is deasserted, and has the effect of REG_WR IRQ_STATUS, 1. -/
def Obligations.AckClearsPend : Prop :=
  ∀ s : State, exec .ack s = .next (answered .ok 0#32 { s with pend := false }) ∧
    exec .ack s = exec (.regWr .irqStatus 1#32) s

/-- R121: the commands of the controller family act on the controller registers and the engine only; but for DISABLE they
never change the FSM or the session. The family's opcodes are those below 0x20. -/
def Obligations.ControllerCommandsKeepTheHandoff : Prop :=
  ∀ (i : Instr) (s t : State), exec i s = .next t → (encode i).opc.toNat < 0x20 →
    (i ≠ .disable → t.fsm = s.fsm ∧ t.armed = s.armed) ∧ t.last = s.last ∧ t.ready = s.ready ∧
    t.seq = s.seq ∧ t.result = s.result ∧ t.opt = s.opt ∧ t.sr = s.sr ∧ t.mem = s.mem ∧
    t.busLog = s.busLog ∧ t.memLog = s.memLog

/-! ### Handoff FSM commands -/

/-- R131: ARM, accepted and refused. -/
def Obligations.ArmAcceptedAndRefused : Prop :=
  ∀ (b : Word) (s : State),
    (s.seq = .sIdle → s.fsm ≠ .draining → ¬ (s.ready = true ∧ s.last = some b) →
      exec (.arm b) s = .next (answered .ok 0#32
        { s with rx := true, eng := .waiting, fp := b, pend := false, armed := some b, fsm := .armed })) ∧
    (s.seq ≠ .sIdle ∨ s.fsm = .draining ∨ (s.ready = true ∧ s.last = some b) →
      exec (.arm b) s = .next (answered .protocolViolation 0#32 s))

/-- R132: a double-arm, neither ARM refused, leaves the new buffer armed, aborts the old frame, keeps `last` and `ready`, what was written in
memory, and no record of the old buffer. -/
def Obligations.DoubleArmKeepsNoRecord : Prop :=
  ∀ (a b : Word) (s s1 : State), s.seq = .sIdle → s.fsm ≠ .draining →
    ¬ (s.ready = true ∧ s.last = some a) → ¬ (s.ready = true ∧ s.last = some b) → exec (.arm a) s = .next s1 →
    ∃ t, exec (.arm b) s1 = .next t ∧ t.armed = some b ∧ t.fp = b ∧ t.fsm = .armed ∧ t.eng = .waiting ∧
      t.last = s.last ∧ t.ready = s.ready ∧ t.pend = false ∧ t.mem = s.mem ∧
      t.responses.get s.ctx = s.responses.get s.ctx ++ [⟨.ok, 0#32⟩, ⟨.ok, 0#32⟩]

/-- R135, R136, R137: HARVEST, accepted and refused. The harvested identity is FRAME_PTR before the write; a frame not yet
taken is overwritten. -/
def Obligations.HarvestAcceptedAndRefused : Prop :=
  ∀ (n : Word) (s : State),
    (s.fsm = .draining → n ≠ s.fp →
      exec (.harvest n) s = .next (answered .ok s.fp
        { s with rx := true, eng := .waiting, fp := n, pend := false, last := some s.fp, ready := true,
                 armed := some n, fsm := .armed })) ∧
    (s.fsm ≠ .draining ∨ n = s.fp → exec (.harvest n) s = .next (answered .protocolViolation 0#32 s))

/-- R140, R141, R142: WAIT_FRAME: a ready frame wins over CANCELLED, CANCELLED over TIMEOUT; else it holds, and is evaluated
again at its context's later turns. -/
def Obligations.WaitFrameTakesCancelsTimesOutOrHolds : Prop :=
  ∀ (t : Word) (s : State),
    (∀ a, s.ready = true → s.last = some a →
      exec (.waitFrame t) s = .next (answered .ok a { s with ready := false })) ∧
    (s.ready = false → s.fsm = .idle → exec (.waitFrame t) s = .next (answered .cancelled 0#32 s)) ∧
    (s.ready = false → s.fsm ≠ .idle → t = 0#32 →
      exec (.waitFrame t) s = .next { s with slot := s.slot.set s.ctx (some (.waitFrame t)) }) ∧
    (s.ready = false → s.fsm ≠ .idle → t ≠ 0#32 → s.nextTimeout = true →
      exec (.waitFrame t) s = .next (answered .timeout 0#32 { s with env := s.env.takeTimeout })) ∧
    (s.ready = false → s.fsm ≠ .idle → t ≠ 0#32 → s.nextTimeout = false →
      exec (.waitFrame t) s =
        .next { s with slot := s.slot.set s.ctx (some (.waitFrame t)), env := s.env.takeTimeout }) ∧
    (∀ c, s.slot.get c = some (.waitFrame t) → portStep c s = exec (.waitFrame t) { s with ctx := c })

/-- R145, R146: DIAG answers each item's value and changes nothing (items 0 to 2 are read as REG_RD reads them). -/
def Obligations.DiagReturnsEachItem : Prop :=
  ∀ s : State,
    exec (.diag 0#8) s = exec (.regRd .ctrl) s ∧
    exec (.diag 1#8) s = exec (.regRd .irqMask) s ∧
    exec (.diag 2#8) s = exec (.regRd .irqStatus) s ∧
    exec (.diag 3#8) s = .next (answered .ok s.fp s) ∧
    exec (.diag 4#8) s = .next (answered .ok
      (match s.fsm with | .idle => 0#32 | .armed => 1#32 | .draining => 2#32) s) ∧
    exec (.diag 5#8) s = .next (answered .ok (match s.armed with | some a => a | none => 0#32) s) ∧
    exec (.diag 6#8) s = .next (answered .ok (match s.armed with | some _ => 1#32 | none => 0#32) s) ∧
    exec (.diag 7#8) s = .next (answered .ok (match s.last with | some a => a | none => 0#32) s) ∧
    exec (.diag 8#8) s = .next (answered .ok (match s.last with | some _ => 1#32 | none => 0#32) s) ∧
    exec (.diag 9#8) s = .next (answered .ok (if s.ready then 1#32 else 0#32) s) ∧
    exec (.diag 10#8) s = .next (answered .ok (if s.pend && s.ie then 1#32 else 0#32) s) ∧
    exec (.diag 11#8) s = .next (answered .ok (match s.eng with | .waiting => 0#32 | .capturing _ _ => 1#32) s) ∧
    exec (.diag 12#8) s = .next (answered .ok (match s.seq with | .sIdle => 0#32 | .running _ _ _ => 1#32) s) ∧
    ∃ d, exec (.diag 13#8) s = .next (answered .ok d s) ∧ d.extractLsb' 0 8 = s.result.code ∧
      d.extractLsb' 8 8 = s.result.id ∧ d.extractLsb' 16 16 = 0#16

/-! ### The capture engine -/

/-- R150, R151: START, when enabled, latches FP or faults (when both checks fail, with either fault); when not enabled a
Waiting engine takes no step. -/
def Obligations.StartLatchesOrFaults : Prop :=
  ∀ s : State, s.eng = .waiting →
    (¬ (s.pwr = true ∧ s.rx = true ∧ s.pend = false) → engineStep s = .next s) ∧
    (s.pwr = true ∧ s.rx = true ∧ s.pend = false →
      (s.fp.toNat % 2 ≠ 0 → s.fp.toNat + 153600 ≤ 2 ^ 32 → engineStep s = .fault (.bufferMisaligned s.fp)) ∧
      (s.fp.toNat % 2 = 0 → s.fp.toNat + 153600 > 2 ^ 32 → engineStep s = .fault (.bufferOutOfRange s.fp)) ∧
      (s.fp.toNat % 2 ≠ 0 → s.fp.toNat + 153600 > 2 ^ 32 →
        engineStep s = .fault (.bufferMisaligned s.fp) ∨ engineStep s = .fault (.bufferOutOfRange s.fp)) ∧
      (s.fp.toNat % 2 = 0 → s.fp.toNat + 153600 ≤ 2 ^ 32 →
        engineStep s = .next { s with eng := .capturing s.fp 0 }))

/-- R74, R75, R152: PIXEL writes the drawn pixel's two bytes at base + 2n in PIXEL_ENDIAN order, logs them, counts the
pixel, and changes nothing else, for a base that passed START's range check. -/
def Obligations.PixelWritesItsTwoBytes : Prop :=
  ∀ (s : State) (base : Word) (n : Nat), s.eng = .capturing base n → n < 76800 → base.toNat + 153600 ≤ 2 ^ 32 →
    ∃ t, engineStep s = .next t ∧
      t = { s with eng := .capturing base (n + 1), mem := t.mem, memLog := t.memLog, env := s.env.takePixel } ∧
      (match s.params.pixelEndian with
        | .little => t.mem.read (base.toNat + 2 * n) = some (s.nextPixel.extractLsb' 0 8) ∧
            t.mem.read (base.toNat + 2 * n + 1) = some (s.nextPixel.extractLsb' 8 8)
        | .big => t.mem.read (base.toNat + 2 * n) = some (s.nextPixel.extractLsb' 8 8) ∧
            t.mem.read (base.toNat + 2 * n + 1) = some (s.nextPixel.extractLsb' 0 8)) ∧
      (∀ x, x ≠ base.toNat + 2 * n → x ≠ base.toNat + 2 * n + 1 → t.mem.read x = s.mem.read x) ∧
      ∃ bytes, t.memLog = s.memLog ++ [⟨base + BitVec.ofNat 32 (2 * n), bytes⟩] ∧
        bytes = pixelToBytes s.params.pixelEndian s.nextPixel

/-- R154: COMPLETE sets PEND, ends the frame and takes Armed to Draining; FP, the session and memory are kept. -/
def Obligations.CompleteEndsTheFrame : Prop :=
  ∀ (s : State) (base : Word), s.eng = .capturing base 76800 →
    engineStep s = .next { s with pend := true, eng := .waiting,
                                  fsm := match s.fsm with | .armed => .draining | .idle => .idle | .draining => .draining }

/-- R150 to R154, R81: an undisturbed engine delivers a whole frame: from an enabled START with a valid FP, 76802 engine
steps end in a completion, every pixel drawn is in the buffer in row-major order, no other byte changed, and a host that then
reads the buffer sees every pixel. -/
def Obligations.EngineDeliversAWholeFrame : Prop :=
  ∀ s : State, s.startEnabled = true → baseAligned s.fp = true → baseInRange s.fp = true →
    ∃ t, engineRun (framePixels + 2) s = .next t ∧
      t = { s with pend := true, eng := .waiting, fsm := if s.fsm = .armed then .draining else s.fsm,
                   mem := t.mem, memLog := t.memLog, env := t.env } ∧
      t.memLog = s.memLog ++ (List.range framePixels).map
        (fun n => ⟨pixelAddr s.fp n, pixelToBytes s.params.pixelEndian (pixelDraw s n)⟩) ∧
      (∀ n, n < framePixels →
        [t.mem.read (s.fp.toNat + 2 * n), t.mem.read (s.fp.toNat + 2 * n + 1)] =
          (pixelToBytes s.params.pixelEndian (pixelDraw s n)).map some) ∧
      (∀ x, x < s.fp.toNat ∨ s.fp.toNat + frameBytes ≤ x → t.mem.read x = s.mem.read x) ∧
      t.mem.readBytes s.fp frameBytes =
        (List.range framePixels).flatMap (fun n => pixelToBytes s.params.pixelEndian (pixelDraw s n))

/-- R131, R135, R136, R154 (95_test_vectors.md W4): ARM a, an undisturbed frame, HARVEST b: the harvested buffer is a, the
armed one is b. -/
def Obligations.HarvestNamesTheCapturedBuffer : Prop :=
  ∀ (a b : Word) (s s1 : State), s.pwr = true → s.seq = .sIdle → s.fsm ≠ .draining →
    ¬ (s.ready = true ∧ s.last = some a) → baseAligned a = true → baseInRange a = true → b ≠ a → exec (.arm a) s = .next s1 →
    ∃ t u, engineRun (framePixels + 2) s1 = .next t ∧ t.fsm = .draining ∧
      exec (.harvest b) t = .next u ∧ u.last = some a ∧ u.armed = some b ∧ u.ready = true ∧ u.fsm = .armed ∧
      u.responses.get s.ctx = s.responses.get s.ctx ++ [⟨.ok, 0#32⟩, ⟨.ok, a⟩]

/-- R153: a command leaves a frame in progress as it is, or aborts it; an abort closes the gate or is part of ARM or HARVEST,
sets no PEND and leaves memory as it is. Only REG_WR CTRL, DISABLE, DISABLE_RX, ARM and HARVEST can abort. -/
def Obligations.OnlyGateClosingCommandsAbort : Prop :=
  ∀ (i : Instr) (s t : State), StateInv s → s.eng.isCapturing = true → exec i s = .next t →
    t.eng = s.eng ∨
    (t.eng = .waiting ∧ t.pend = false ∧ t.mem = s.mem ∧ t.memLog = s.memLog ∧
      ((∃ d, i = .regWr .ctrl d ∧ t.gate = false) ∨ i = .disable ∨ i = .disableRx ∨
       (∃ b, i = .arm b) ∨ (∃ n, i = .harvest n)))

/-! ### Sensor register commands -/

/-- R39, R160, R165: SREG_WR: refused while the sequencer runs; else one write transaction, its bytes id, v[15:8], v[7:0]; a
failed one leaves SR[id] a draw. That SR is so written in the Oracle model too is read from R39's "SR is still written"
(log 28, the model's reading). -/
def Obligations.SregWrMakesOneWrite : Prop :=
  ∀ (id : Byte) (v : Half) (s : State),
    (s.seq ≠ .sIdle → exec (.sregWr id v) s = .next (answered .protocolViolation 0#32 s)) ∧
    (s.seq = .sIdle → s.nextBusOk = true →
      exec (.sregWr id v) s = .next (answered .ok 0#32
        { s with sr := s.sr.set id.toNat v id.isLt, busLog := s.busLog ++ [⟨.write, id, v, true⟩],
                 env := s.env.takeBusOk })) ∧
    (s.seq = .sIdle → s.nextBusOk = false →
      ∃ x, x = ({ s with env := s.env.takeBusOk } : State).nextSensorVal ∧
      exec (.sregWr id v) s = .next (answered .busTransferError (id.setWidth 32)
        { s with sr := s.sr.set id.toNat x id.isLt, busLog := s.busLog ++ [⟨.write, id, v, false⟩],
                 env := s.env.takeBusOk.takeSensorVal })) ∧
    BusEntry.wire ⟨.write, id, v, true⟩ = [id, v.extractLsb' 8 8, v.extractLsb' 0 8]

/-- R161, R163, R166: SREG_RD: refused while the sequencer runs; else one read transaction: SR[id] in the Stored model, a
draw in the Oracle model, no value on failure; SR is not changed. -/
def Obligations.SregRdMakesOneRead : Prop :=
  ∀ (id : Byte) (s : State),
    (s.seq ≠ .sIdle → exec (.sregRd id) s = .next (answered .protocolViolation 0#32 s)) ∧
    (s.seq = .sIdle → s.nextBusOk = true → s.params.readModel = .stored →
      exec (.sregRd id) s = .next (answered .ok ((s.sr[id.toNat]'id.isLt).setWidth 32)
        { s with busLog := s.busLog ++ [⟨.read, id, s.sr[id.toNat]'id.isLt, true⟩], env := s.env.takeBusOk })) ∧
    (s.seq = .sIdle → s.nextBusOk = true → s.params.readModel = .oracle →
      ∃ x, x = ({ s with env := s.env.takeBusOk } : State).nextSensorVal ∧
      exec (.sregRd id) s = .next (answered .ok (x.setWidth 32)
        { s with busLog := s.busLog ++ [⟨.read, id, x, true⟩], env := s.env.takeBusOk.takeSensorVal })) ∧
    (s.seq = .sIdle → s.nextBusOk = false →
      ∃ x, x = ({ s with env := s.env.takeBusOk } : State).nextSensorVal ∧
      exec (.sregRd id) s = .next (answered .busTransferError (id.setWidth 32)
        { s with busLog := s.busLog ++ [⟨.read, id, x, false⟩], env := s.env.takeBusOk.takeSensorVal })) ∧
    (∀ b0 b1 : Byte, (ofWire b0 b1).extractLsb' 8 8 = b0 ∧ (ofWire b0 b1).extractLsb' 0 8 = b1)

/-- R39, R160, R167: SREG_RMW: refused while the sequencer runs or outside Idle; a failed read makes no write; else (v & ~clear) | set
is written, v being the value read (Stored model: SR[id]; Oracle model: a draw). `s1` is the state the read leaves: the
write's success is the next draw in it. That SR is so written in the Oracle model too is read from R39's "SR is still
written" (log 28, the model's reading). -/
def Obligations.SregRmwReadsThenWrites : Prop :=
  ∀ (id : Byte) (a c : Half) (s : State),
    (s.seq ≠ .sIdle ∨ s.fsm ≠ .idle →
      exec (.sregRmw id a c) s = .next (answered .protocolViolation 0#32 s)) ∧
    (s.seq = .sIdle → s.fsm = .idle → s.nextBusOk = false →
      ∃ x, x = ({ s with env := s.env.takeBusOk } : State).nextSensorVal ∧
      exec (.sregRmw id a c) s = .next (answered .configurationError (id.setWidth 32)
        { s with busLog := s.busLog ++ [⟨.read, id, x, false⟩], env := s.env.takeBusOk.takeSensorVal })) ∧
    ∀ (v w : Half) (s1 : State), s.seq = .sIdle → s.fsm = .idle → s.nextBusOk = true →
      (s.params.readModel = .stored ∧ v = s.sr[id.toNat]'id.isLt ∧
        s1 = { s with busLog := s.busLog ++ [⟨.read, id, v, true⟩], env := s.env.takeBusOk }) ∨
      (s.params.readModel = .oracle ∧ v = ({ s with env := s.env.takeBusOk } : State).nextSensorVal ∧
        s1 = { s with busLog := s.busLog ++ [⟨.read, id, v, true⟩], env := s.env.takeBusOk.takeSensorVal }) →
      w = (v &&& ~~~c) ||| a →
      (s1.nextBusOk = true →
        exec (.sregRmw id a c) s = .next (answered .ok (w.setWidth 32)
          { s1 with sr := s.sr.set id.toNat w id.isLt, busLog := s1.busLog ++ [⟨.write, id, w, true⟩],
                    env := s1.env.takeBusOk })) ∧
      (s1.nextBusOk = false →
        ∃ x, x = ({ s1 with env := s1.env.takeBusOk } : State).nextSensorVal ∧
        exec (.sregRmw id a c) s = .next (answered .busTransferError (id.setWidth 32)
          { s1 with sr := s.sr.set id.toNat x id.isLt, busLog := s1.busLog ++ [⟨.write, id, w, false⟩],
                    env := s1.env.takeBusOk.takeSensorVal }))

/-- R168: the register round trip: in the Stored model, with both transactions ok, SREG_WR then SREG_RD of the same
identifier returns the value written. -/
def Obligations.RegisterRoundTrip : Prop :=
  ∀ (id : Byte) (v : Half) (s : State) (rest : List Bool), s.seq = .sIdle → s.params.readModel = .stored →
    s.env.busOk = true :: true :: rest →
    ∃ s1 t, exec (.sregWr id v) s = .next s1 ∧ exec (.sregRd id) s1 = .next t ∧
      t.responses.get s.ctx = s.responses.get s.ctx ++ [⟨.ok, 0#32⟩, ⟨.ok, v.setWidth 32⟩] ∧
      t.busLog = s.busLog ++ [⟨.write, id, v, true⟩, ⟨.read, id, v, true⟩] ∧
      BusEntry.wire ⟨.write, id, v, true⟩ = [id, v.extractLsb' 8 8, v.extractLsb' 0 8]

/-- R169: what SREG_RMW writes keeps the bits it does not name, sets those it sets and clears the rest it clears; with the
chip-enable mask exactly bit 1 changes. -/
def Obligations.RmwKeepsUnnamedBits : Prop :=
  ∀ (id : Byte) (a c : Half) (s : State) (rest : List Bool), s.seq = .sIdle → s.fsm = .idle →
    s.params.readModel = .stored → s.env.busOk = true :: true :: rest →
    ∃ t, exec (.sregRmw id a c) s = .next t ∧
      t.readSr id &&& ~~~(a ||| c) = s.readSr id &&& ~~~(a ||| c) ∧
      t.readSr id &&& a = a ∧ t.readSr id &&& (c &&& ~~~a) = 0#16 ∧
      (∀ j, j ≠ id → t.readSr j = s.readSr j) ∧
      (a = chipEnableMask → c = 0#16 →
        (t.readSr id).getLsbD 1 = true ∧ ∀ k, k ≠ 1 → (t.readSr id).getLsbD k = (s.readSr id).getLsbD k)

/-! ### The sequencer -/

/-- R38, R175: SETOPT: the widths; refused while the sequencer runs or when the value does not fit; else that option holds
the value and every other option is kept. In an admissible instance. -/
def Obligations.SetoptWritesOneOption : Prop :=
  (∀ p : Params, (List.range 17).map (fun i => optWidth p (BitVec.ofNat 8 i)) =
    [some 16, some 16, some 32, some 2, some 3, some 2, some 3, some 1, some 1, some 1, some p.pixclkDivBits, some 1,
     some 4, some 16, some 16, some 16, some 16]) ∧
  ∀ (i : Byte) (x : Word) (s : State) (width : Nat), s.params.wf = true → optWidth s.params i = some width →
    (s.seq ≠ .sIdle → exec (.setopt i x) s = .next (answered .protocolViolation 0#32 s)) ∧
    (2 ^ width ≤ x.toNat → exec (.setopt i x) s = .next (answered .protocolViolation 0#32 s)) ∧
    (s.seq = .sIdle → x.toNat < 2 ^ width →
      ∃ o, exec (.setopt i x) s = .next (answered .ok 0#32 { s with opt := o }) ∧
        o.get i = some x ∧ ∀ j, j ≠ i → o.get j = s.opt.get j)

/-- R38, R176: GETOPT returns each option zero-extended, at any time, and changes nothing. -/
def Obligations.GetoptReturnsEachOption : Prop :=
  ∀ s : State, (List.range 17).map (fun i => exec (.getopt (BitVec.ofNat 8 i)) s) =
    [s.opt.rowSize.setWidth 32, s.opt.colSize.setWidth 32, s.opt.shutter, s.opt.rowBin.setWidth 32,
     s.opt.rowSkip.setWidth 32, s.opt.colBin.setWidth 32, s.opt.colSkip.setWidth 32,
     if s.opt.mirrorRow then 1#32 else 0#32, if s.opt.mirrorCol then 1#32 else 0#32,
     if s.opt.pixclkInv then 1#32 else 0#32, s.opt.pixclkDiv.setWidth 32,
     if s.opt.tpEnable then 1#32 else 0#32, s.opt.tpPattern.setWidth 32, s.opt.tpRed.setWidth 32,
     s.opt.tpGreen.setWidth 32, s.opt.tpBlue.setWidth 32, s.opt.tpBarWidth.setWidth 32].map
      (fun v => .next (answered .ok v s))

/-- R177, R179: CONFIGURE: refused while the sequencer runs, outside Idle, or with an unknown selector; else it starts the
transactions of the options as they are and holds. -/
def Obligations.ConfigureStartsAndHolds : Prop :=
  ∀ s : State,
    (s.seq ≠ .sIdle ∨ s.fsm ≠ .idle ∨ (s.opt.tpEnable = true ∧ 8 < s.opt.tpPattern.toNat) →
      exec .configure s = .next (answered .protocolViolation 0#32 s)) ∧
    (s.seq = .sIdle → s.fsm = .idle → ¬ (s.opt.tpEnable = true ∧ 8 < s.opt.tpPattern.toNat) →
      exec .configure s = .next
        { s with seq := .running (transactions s.params s.opt) 0 0#16,
                 slot := s.slot.set s.ctx (some .configure) })

/-- R39, R160, R190, R194, R195: one sequencer transaction, succeeding and failing, while one context holds the CONFIGURE.
The model's readings: SR is so written in the Oracle model too, from R39's "SR is still written" (log 28), and a write
half's function is its two masks (log 13). -/
def Obligations.SequencerMakesItsTransaction : Prop :=
  ∀ (s : State) (txns : List Txn) (k : Nat) (rmw : Half) (c : Ctx),
    s.seq = .running txns k rmw → HoldsConfigure s c →
    (∀ id v, txns[k]? = some (.w id v) → s.nextBusOk = true →
      seqStep s = advanced c txns k rmw
        { s with sr := s.sr.set id.toNat v id.isLt, busLog := s.busLog ++ [⟨.write, id, v, true⟩],
                 env := s.env.takeBusOk }) ∧
    (∀ id a b, txns[k]? = some (.rw id a b) → s.nextBusOk = true →
      seqStep s = advanced c txns k rmw
        { s with sr := s.sr.set id.toNat ((rmw &&& ~~~b) ||| a) id.isLt,
                 busLog := s.busLog ++ [⟨.write, id, (rmw &&& ~~~b) ||| a, true⟩], env := s.env.takeBusOk }) ∧
    (∀ id, txns[k]? = some (.rr id) → s.nextBusOk = true → s.params.readModel = .stored →
      seqStep s = advanced c txns k (s.sr[id.toNat]'id.isLt)
        { s with busLog := s.busLog ++ [⟨.read, id, s.sr[id.toNat]'id.isLt, true⟩], env := s.env.takeBusOk }) ∧
    (∀ id, txns[k]? = some (.rr id) → s.nextBusOk = true → s.params.readModel = .oracle →
      ∃ x, x = ({ s with env := s.env.takeBusOk } : State).nextSensorVal ∧
      seqStep s = advanced c txns k x
        { s with busLog := s.busLog ++ [⟨.read, id, x, true⟩], env := s.env.takeBusOk.takeSensorVal }) ∧
    (∀ id v, txns[k]? = some (.w id v) → s.nextBusOk = false →
      ∃ x, x = ({ s with env := s.env.takeBusOk } : State).nextSensorVal ∧
      seqStep s = finished c .busTransferError id
        { s with sr := s.sr.set id.toNat x id.isLt, busLog := s.busLog ++ [⟨.write, id, v, false⟩],
                 env := s.env.takeBusOk.takeSensorVal } ∧
      (seqStep s).result = ⟨1#8, id⟩) ∧
    (∀ id a b, txns[k]? = some (.rw id a b) → s.nextBusOk = false →
      ∃ x, x = ({ s with env := s.env.takeBusOk } : State).nextSensorVal ∧
      seqStep s = finished c .busTransferError id
        { s with sr := s.sr.set id.toNat x id.isLt,
                 busLog := s.busLog ++ [⟨.write, id, (rmw &&& ~~~b) ||| a, false⟩],
                 env := s.env.takeBusOk.takeSensorVal } ∧
      (seqStep s).result = ⟨1#8, id⟩) ∧
    (∀ id, txns[k]? = some (.rr id) → s.nextBusOk = false →
      ∃ x, x = ({ s with env := s.env.takeBusOk } : State).nextSensorVal ∧
      seqStep s = finished c .configurationError id
        { s with busLog := s.busLog ++ [⟨.read, id, x, false⟩], env := s.env.takeBusOk.takeSensorVal } ∧
      (seqStep s).result = ⟨2#8, id⟩)

/-- R181 to R189: the transaction list, 13 entries without the test pattern and 18 with it. A write half is held as the two
masks of its function (log 13, the model's reading of R181); for every value read, the masks give the value its row
states. -/
def Obligations.TransactionListIsTheTable : Prop :=
  ∀ (p : Params) (o : Options),
    (o.tpEnable = false → (transactions p o).length = 13) ∧
    (o.tpEnable = true → (transactions p o).length = 18) ∧
    transactions p o =
      [.w p.regRowSize o.rowSize, .w p.regColSize o.colSize,
       .w p.regShutterLower (o.shutter.extractLsb' 0 16), .w p.regShutterUpper (o.shutter.extractLsb' 16 16),
       .w p.regRowAddrMode ((o.rowBin.setWidth 16 <<< 4) ||| o.rowSkip.setWidth 16),
       .w p.regColAddrMode ((o.colBin.setWidth 16 <<< 4) ||| o.colSkip.setWidth 16),
       .rr p.regReadMode1, .rw p.regReadMode1 0#16 p.snapshotMask,
       .rr p.regReadMode2,
       .rw p.regReadMode2
         ((if o.mirrorRow then p.rowMirrorMask else 0#16) ||| (if o.mirrorCol then p.colMirrorMask else 0#16))
         (p.rowMirrorMask ||| p.colMirrorMask),
       .w p.regPixclk ((if o.pixclkInv then p.pixclkInvMask else 0#16) ||| (o.pixclkDiv <<< p.pixclkDivLsb))] ++
      (if o.tpEnable then
        [.w p.regTpCtrl (p.tpEnMask ||| (o.tpPattern.setWidth 16 <<< p.tpModeLsb)), .w p.regTpRed o.tpRed,
         .w p.regTpGreen o.tpGreen, .w p.regTpBlue o.tpBlue, .w p.regTpBarWidth o.tpBarWidth]
       else []) ++
      [.rr p.regOutputControl, .rw p.regOutputControl 0x0002#16 0#16] ∧
    ∀ v : Half,
      rmwValue v 0#16 p.snapshotMask = v &&& ~~~p.snapshotMask ∧
      rmwValue v ((if o.mirrorRow then p.rowMirrorMask else 0#16) ||| (if o.mirrorCol then p.colMirrorMask else 0#16))
          (p.rowMirrorMask ||| p.colMirrorMask) =
        (v &&& ~~~(p.rowMirrorMask ||| p.colMirrorMask)) ||| (if o.mirrorRow then p.rowMirrorMask else 0#16) |||
          (if o.mirrorCol then p.colMirrorMask else 0#16) ∧
      rmwValue v 0x0002#16 0#16 = v ||| 0x0002#16

/-- R184, R197: the address-mode packing lies in 0x00..0x37 and is recovered from any register value with those fields. -/
def Obligations.AddressModeDecodesBack : Prop :=
  ∀ (bin : BitVec 2) (skip : BitVec 3),
    (addrMode bin skip).toNat = 16 * bin.toNat + skip.toNat ∧ addrMode bin skip ≤ 0x37#16 ∧
    decAddrMode (addrMode bin skip) = (bin, skip) ∧
    ∀ r : Half, decAddrMode r = (r.extractLsb' 4 2, r.extractLsb' 0 3)

/-- R195, R196, R198: a successful CONFIGURE in the Stored model: after its |T| transactions the sequencer is SIdle, the command is
answered (OK, 0), the registers hold the values the list gives, no other register changed, and the last bus transaction is
the chip-enable write. -/
def Obligations.SuccessfulConfigureEndState : Prop :=
  ∀ s : State, StateInv s → s.params.readModel = .stored → s.seq = .sIdle → s.fsm = .idle →
    (s.opt.tpEnable = true → s.opt.tpPattern.toNat ≤ 8) →
    s.env.busOk.take (transactions s.params s.opt).length =
      List.replicate (transactions s.params s.opt).length true →
    ∃ s1 t, exec .configure s = .next s1 ∧ t = seqStep^[(transactions s.params s.opt).length] s1 ∧
      t.seq = .sIdle ∧ t.result = ⟨0#8, 0#8⟩ ∧ t.slot.get s.ctx = none ∧
      t.responses = s.responses.set s.ctx (s.responses.get s.ctx ++ [⟨.ok, 0#32⟩]) ∧
      t.readSr s.params.regRowSize = s.opt.rowSize ∧ t.readSr s.params.regColSize = s.opt.colSize ∧
      t.readSr s.params.regShutterLower = s.opt.shutter.extractLsb' 0 16 ∧
      t.readSr s.params.regShutterUpper = s.opt.shutter.extractLsb' 16 16 ∧
      t.readSr s.params.regRowAddrMode = addrMode s.opt.rowBin s.opt.rowSkip ∧
      t.readSr s.params.regColAddrMode = addrMode s.opt.colBin s.opt.colSkip ∧
      t.readSr s.params.regReadMode1 = s.readSr s.params.regReadMode1 &&& ~~~s.params.snapshotMask ∧
      t.readSr s.params.regReadMode2 =
        (s.readSr s.params.regReadMode2 &&& ~~~(s.params.rowMirrorMask ||| s.params.colMirrorMask)) |||
          ((if s.opt.mirrorRow then s.params.rowMirrorMask else 0#16) |||
           (if s.opt.mirrorCol then s.params.colMirrorMask else 0#16)) ∧
      t.readSr s.params.regPixclk =
        (if s.opt.pixclkInv then s.params.pixclkInvMask else 0#16) ||| (s.opt.pixclkDiv <<< s.params.pixclkDivLsb) ∧
      (s.opt.tpEnable = true →
        t.readSr s.params.regTpCtrl = s.params.tpEnMask ||| (s.opt.tpPattern.setWidth 16 <<< s.params.tpModeLsb) ∧
        t.readSr s.params.regTpRed = s.opt.tpRed ∧ t.readSr s.params.regTpGreen = s.opt.tpGreen ∧
        t.readSr s.params.regTpBlue = s.opt.tpBlue ∧ t.readSr s.params.regTpBarWidth = s.opt.tpBarWidth) ∧
      t.readSr s.params.regOutputControl = s.readSr s.params.regOutputControl ||| 0x0002#16 ∧
      (∀ id, id ∉ (transactions s.params s.opt).map Txn.target → t.readSr id = s.readSr id) ∧
      t.busLog.length = s.busLog.length + (transactions s.params s.opt).length ∧
      t.busLog.getLast? =
        some ⟨.write, s.params.regOutputControl, s.readSr s.params.regOutputControl ||| 0x0002#16, true⟩

/-- R193, R194, R195, R196, R211: a CONFIGURE whose transaction j (from 0) is the first to fail stops there: it answers and records that
transaction's error (number 2 for a read half, 1 for a write) and identifier, makes no later transaction, and has made no successful chip-enable write. -/
def Obligations.FirstFailureEndsTheSequence : Prop :=
  ∀ (s : State) (j : Nat) (y : Txn), StateInv s → s.seq = .sIdle → s.fsm = .idle →
    (s.opt.tpEnable = true → s.opt.tpPattern.toNat ≤ 8) → (transactions s.params s.opt)[j]? = some y →
    s.env.busOk.take (j + 1) = List.replicate j true ++ [false] →
    ∃ s1 t, exec .configure s = .next s1 ∧ t = seqStep^[j + 1] s1 ∧
      t.seq = .sIdle ∧ t.result = ⟨match y with | .rr _ => 2#8 | .w _ _ => 1#8 | .rw _ _ _ => 1#8, y.target⟩ ∧
      t.slot.get s.ctx = none ∧
      t.responses = s.responses.set s.ctx (s.responses.get s.ctx ++ [⟨y.failure, y.target.setWidth 32⟩]) ∧
      t.busLog.length = s.busLog.length + (j + 1) ∧ seqStep t = t ∧
      (∀ e ∈ t.busLog.drop s.busLog.length,
        ¬ (e.kind = .write ∧ e.id = s.params.regOutputControl ∧ e.ok = true)) ∧
      (∀ id, id ∉ ((transactions s.params s.opt).take (j + 1)).map Txn.target → t.readSr id = s.readSr id)

/-- R190, R216: a Running sequencer is SIdle again after at most as many of its steps as transactions are left. -/
def Obligations.SequencerEndsWithinItsList : Prop :=
  ∀ (s : State) (txns : List Txn) (k : Nat) (rmw : Half), s.seq = .running txns k rmw → k < txns.length →
    ∃ m, m ≤ txns.length - k ∧ (seqStep^[m] s).seq = .sIdle
end

