-- ==== Sys2Proof/Laws/State.lean ====
section
/-!
SUPPORT. For every named update of State: what it does to each field (true by unfolding, tagged simp), so that no later
proof unfolds a record update. Also the items of a `PerCtx`.
-/
namespace Sys2Proof.Machine

/-! ### Per-context items -/

@[simp] theorem PerCtx.get_set_same {α : Type} (p : PerCtx α) (c : Ctx) (x : α) : (p.set c x).get c = x := by
  cases c <;> rfl

theorem PerCtx.get_set_other {α : Type} (p : PerCtx α) {c d : Ctx} (h : d ≠ c) (x : α) :
    (p.set c x).get d = p.get d := by
  cases c <;> cases d <;> first | rfl | exact absurd rfl h

@[simp] theorem PerCtx.set_get {α : Type} (p : PerCtx α) (c : Ctx) : p.set c (p.get c) = p := by
  cases c <;> rfl

@[simp] theorem PerCtx.set_set {α : Type} (p : PerCtx α) (c : Ctx) (x y : α) : (p.set c x).set c y = p.set c y := by
  cases c <;> rfl

@[simp] theorem PerCtx.get_main {α : Type} (p : PerCtx α) : p.get .main = p.main := rfl
@[simp] theorem PerCtx.get_irq {α : Type} (p : PerCtx α) : p.get .irq = p.irq := rfl
@[simp] theorem PerCtx.set_main {α : Type} (p : PerCtx α) (x : α) : p.set .main x = ⟨x, p.irq⟩ := rfl
@[simp] theorem PerCtx.set_irq {α : Type} (p : PerCtx α) (x : α) : p.set .irq x = ⟨p.main, x⟩ := rfl

/-! ### withEnv -/

@[simp] theorem State.withEnv_rx (s : State) (e : Env) : (s.withEnv e).rx = s.rx := rfl
@[simp] theorem State.withEnv_pwr (s : State) (e : Env) : (s.withEnv e).pwr = s.pwr := rfl
@[simp] theorem State.withEnv_ie (s : State) (e : Env) : (s.withEnv e).ie = s.ie := rfl
@[simp] theorem State.withEnv_pend (s : State) (e : Env) : (s.withEnv e).pend = s.pend := rfl
@[simp] theorem State.withEnv_fp (s : State) (e : Env) : (s.withEnv e).fp = s.fp := rfl
@[simp] theorem State.withEnv_fsm (s : State) (e : Env) : (s.withEnv e).fsm = s.fsm := rfl
@[simp] theorem State.withEnv_armed (s : State) (e : Env) : (s.withEnv e).armed = s.armed := rfl
@[simp] theorem State.withEnv_last (s : State) (e : Env) : (s.withEnv e).last = s.last := rfl
@[simp] theorem State.withEnv_ready (s : State) (e : Env) : (s.withEnv e).ready = s.ready := rfl
@[simp] theorem State.withEnv_eng (s : State) (e : Env) : (s.withEnv e).eng = s.eng := rfl
@[simp] theorem State.withEnv_seq (s : State) (e : Env) : (s.withEnv e).seq = s.seq := rfl
@[simp] theorem State.withEnv_result (s : State) (e : Env) : (s.withEnv e).result = s.result := rfl
@[simp] theorem State.withEnv_opt (s : State) (e : Env) : (s.withEnv e).opt = s.opt := rfl
@[simp] theorem State.withEnv_slot (s : State) (e : Env) : (s.withEnv e).slot = s.slot := rfl
@[simp] theorem State.withEnv_busLog (s : State) (e : Env) : (s.withEnv e).busLog = s.busLog := rfl
@[simp] theorem State.withEnv_memLog (s : State) (e : Env) : (s.withEnv e).memLog = s.memLog := rfl
@[simp] theorem State.withEnv_sr (s : State) (e : Env) : (s.withEnv e).sr = s.sr := rfl
@[simp] theorem State.withEnv_mem (s : State) (e : Env) : (s.withEnv e).mem = s.mem := rfl
@[simp] theorem State.withEnv_params (s : State) (e : Env) : (s.withEnv e).params = s.params := rfl
@[simp] theorem State.withEnv_ctx (s : State) (e : Env) : (s.withEnv e).ctx = s.ctx := rfl
@[simp] theorem State.withEnv_stream (s : State) (e : Env) : (s.withEnv e).stream = s.stream := rfl
@[simp] theorem State.withEnv_hostActs (s : State) (e : Env) : (s.withEnv e).hostActs = s.hostActs := rfl
@[simp] theorem State.withEnv_hostReads (s : State) (e : Env) : (s.withEnv e).hostReads = s.hostReads := rfl
@[simp] theorem State.withEnv_responses (s : State) (e : Env) : (s.withEnv e).responses = s.responses := rfl
@[simp] theorem State.withEnv_env (s : State) (e : Env) : (s.withEnv e).env = e := rfl

/-! ### writeCtrl -/

@[simp] theorem writeCtrl_rx (rx pwr : Bool) (s : State) : (writeCtrl rx pwr s).rx = rx := rfl
@[simp] theorem writeCtrl_pwr (rx pwr : Bool) (s : State) : (writeCtrl rx pwr s).pwr = pwr := rfl
@[simp] theorem writeCtrl_ie (rx pwr : Bool) (s : State) : (writeCtrl rx pwr s).ie = s.ie := rfl
@[simp] theorem writeCtrl_pend (rx pwr : Bool) (s : State) : (writeCtrl rx pwr s).pend = s.pend := rfl
@[simp] theorem writeCtrl_fp (rx pwr : Bool) (s : State) : (writeCtrl rx pwr s).fp = s.fp := rfl
@[simp] theorem writeCtrl_fsm (rx pwr : Bool) (s : State) : (writeCtrl rx pwr s).fsm = s.fsm := rfl
@[simp] theorem writeCtrl_armed (rx pwr : Bool) (s : State) : (writeCtrl rx pwr s).armed = s.armed := rfl
@[simp] theorem writeCtrl_last (rx pwr : Bool) (s : State) : (writeCtrl rx pwr s).last = s.last := rfl
@[simp] theorem writeCtrl_ready (rx pwr : Bool) (s : State) : (writeCtrl rx pwr s).ready = s.ready := rfl
@[simp] theorem writeCtrl_eng (rx pwr : Bool) (s : State) :
    (writeCtrl rx pwr s).eng = if s.eng.isCapturing && (!rx || !pwr) then .waiting else s.eng := rfl
@[simp] theorem writeCtrl_seq (rx pwr : Bool) (s : State) : (writeCtrl rx pwr s).seq = s.seq := rfl
@[simp] theorem writeCtrl_result (rx pwr : Bool) (s : State) : (writeCtrl rx pwr s).result = s.result := rfl
@[simp] theorem writeCtrl_opt (rx pwr : Bool) (s : State) : (writeCtrl rx pwr s).opt = s.opt := rfl
@[simp] theorem writeCtrl_slot (rx pwr : Bool) (s : State) : (writeCtrl rx pwr s).slot = s.slot := rfl
@[simp] theorem writeCtrl_busLog (rx pwr : Bool) (s : State) : (writeCtrl rx pwr s).busLog = s.busLog := rfl
@[simp] theorem writeCtrl_memLog (rx pwr : Bool) (s : State) : (writeCtrl rx pwr s).memLog = s.memLog := rfl
@[simp] theorem writeCtrl_sr (rx pwr : Bool) (s : State) : (writeCtrl rx pwr s).sr = s.sr := rfl
@[simp] theorem writeCtrl_mem (rx pwr : Bool) (s : State) : (writeCtrl rx pwr s).mem = s.mem := rfl
@[simp] theorem writeCtrl_params (rx pwr : Bool) (s : State) : (writeCtrl rx pwr s).params = s.params := rfl
@[simp] theorem writeCtrl_ctx (rx pwr : Bool) (s : State) : (writeCtrl rx pwr s).ctx = s.ctx := rfl
@[simp] theorem writeCtrl_stream (rx pwr : Bool) (s : State) : (writeCtrl rx pwr s).stream = s.stream := rfl
@[simp] theorem writeCtrl_hostActs (rx pwr : Bool) (s : State) : (writeCtrl rx pwr s).hostActs = s.hostActs := rfl
@[simp] theorem writeCtrl_hostReads (rx pwr : Bool) (s : State) : (writeCtrl rx pwr s).hostReads = s.hostReads := rfl
@[simp] theorem writeCtrl_responses (rx pwr : Bool) (s : State) : (writeCtrl rx pwr s).responses = s.responses := rfl
@[simp] theorem writeCtrl_env (rx pwr : Bool) (s : State) : (writeCtrl rx pwr s).env = s.env := rfl

/-! ### writeFp -/

@[simp] theorem writeFp_rx (v : Word) (s : State) : (writeFp v s).rx = s.rx := rfl
@[simp] theorem writeFp_pwr (v : Word) (s : State) : (writeFp v s).pwr = s.pwr := rfl
@[simp] theorem writeFp_ie (v : Word) (s : State) : (writeFp v s).ie = s.ie := rfl
@[simp] theorem writeFp_pend (v : Word) (s : State) :
    (writeFp v s).pend = if s.params.fpWriteAcks then false else s.pend := rfl
@[simp] theorem writeFp_fp (v : Word) (s : State) : (writeFp v s).fp = v := rfl
@[simp] theorem writeFp_fsm (v : Word) (s : State) : (writeFp v s).fsm = s.fsm := rfl
@[simp] theorem writeFp_armed (v : Word) (s : State) : (writeFp v s).armed = s.armed := rfl
@[simp] theorem writeFp_last (v : Word) (s : State) : (writeFp v s).last = s.last := rfl
@[simp] theorem writeFp_ready (v : Word) (s : State) : (writeFp v s).ready = s.ready := rfl
@[simp] theorem writeFp_eng (v : Word) (s : State) : (writeFp v s).eng = s.eng := rfl
@[simp] theorem writeFp_seq (v : Word) (s : State) : (writeFp v s).seq = s.seq := rfl
@[simp] theorem writeFp_result (v : Word) (s : State) : (writeFp v s).result = s.result := rfl
@[simp] theorem writeFp_opt (v : Word) (s : State) : (writeFp v s).opt = s.opt := rfl
@[simp] theorem writeFp_slot (v : Word) (s : State) : (writeFp v s).slot = s.slot := rfl
@[simp] theorem writeFp_busLog (v : Word) (s : State) : (writeFp v s).busLog = s.busLog := rfl
@[simp] theorem writeFp_memLog (v : Word) (s : State) : (writeFp v s).memLog = s.memLog := rfl
@[simp] theorem writeFp_sr (v : Word) (s : State) : (writeFp v s).sr = s.sr := rfl
@[simp] theorem writeFp_mem (v : Word) (s : State) : (writeFp v s).mem = s.mem := rfl
@[simp] theorem writeFp_params (v : Word) (s : State) : (writeFp v s).params = s.params := rfl
@[simp] theorem writeFp_ctx (v : Word) (s : State) : (writeFp v s).ctx = s.ctx := rfl
@[simp] theorem writeFp_stream (v : Word) (s : State) : (writeFp v s).stream = s.stream := rfl
@[simp] theorem writeFp_hostActs (v : Word) (s : State) : (writeFp v s).hostActs = s.hostActs := rfl
@[simp] theorem writeFp_hostReads (v : Word) (s : State) : (writeFp v s).hostReads = s.hostReads := rfl
@[simp] theorem writeFp_responses (v : Word) (s : State) : (writeFp v s).responses = s.responses := rfl
@[simp] theorem writeFp_env (v : Word) (s : State) : (writeFp v s).env = s.env := rfl

/-! ### clearPend -/

@[simp] theorem clearPend_rx (s : State) : (clearPend s).rx = s.rx := rfl
@[simp] theorem clearPend_pwr (s : State) : (clearPend s).pwr = s.pwr := rfl
@[simp] theorem clearPend_ie (s : State) : (clearPend s).ie = s.ie := rfl
@[simp] theorem clearPend_pend (s : State) : (clearPend s).pend = false := rfl
@[simp] theorem clearPend_fp (s : State) : (clearPend s).fp = s.fp := rfl
@[simp] theorem clearPend_fsm (s : State) : (clearPend s).fsm = s.fsm := rfl
@[simp] theorem clearPend_armed (s : State) : (clearPend s).armed = s.armed := rfl
@[simp] theorem clearPend_last (s : State) : (clearPend s).last = s.last := rfl
@[simp] theorem clearPend_ready (s : State) : (clearPend s).ready = s.ready := rfl
@[simp] theorem clearPend_eng (s : State) : (clearPend s).eng = s.eng := rfl
@[simp] theorem clearPend_seq (s : State) : (clearPend s).seq = s.seq := rfl
@[simp] theorem clearPend_result (s : State) : (clearPend s).result = s.result := rfl
@[simp] theorem clearPend_opt (s : State) : (clearPend s).opt = s.opt := rfl
@[simp] theorem clearPend_slot (s : State) : (clearPend s).slot = s.slot := rfl
@[simp] theorem clearPend_busLog (s : State) : (clearPend s).busLog = s.busLog := rfl
@[simp] theorem clearPend_memLog (s : State) : (clearPend s).memLog = s.memLog := rfl
@[simp] theorem clearPend_sr (s : State) : (clearPend s).sr = s.sr := rfl
@[simp] theorem clearPend_mem (s : State) : (clearPend s).mem = s.mem := rfl
@[simp] theorem clearPend_params (s : State) : (clearPend s).params = s.params := rfl
@[simp] theorem clearPend_ctx (s : State) : (clearPend s).ctx = s.ctx := rfl
@[simp] theorem clearPend_stream (s : State) : (clearPend s).stream = s.stream := rfl
@[simp] theorem clearPend_hostActs (s : State) : (clearPend s).hostActs = s.hostActs := rfl
@[simp] theorem clearPend_hostReads (s : State) : (clearPend s).hostReads = s.hostReads := rfl
@[simp] theorem clearPend_responses (s : State) : (clearPend s).responses = s.responses := rfl
@[simp] theorem clearPend_env (s : State) : (clearPend s).env = s.env := rfl

/-! ### writeSr -/

@[simp] theorem State.writeSr_rx (s : State) (id : Byte) (v : Half) : (s.writeSr id v).rx = s.rx := rfl
@[simp] theorem State.writeSr_pwr (s : State) (id : Byte) (v : Half) : (s.writeSr id v).pwr = s.pwr := rfl
@[simp] theorem State.writeSr_ie (s : State) (id : Byte) (v : Half) : (s.writeSr id v).ie = s.ie := rfl
@[simp] theorem State.writeSr_pend (s : State) (id : Byte) (v : Half) : (s.writeSr id v).pend = s.pend := rfl
@[simp] theorem State.writeSr_fp (s : State) (id : Byte) (v : Half) : (s.writeSr id v).fp = s.fp := rfl
@[simp] theorem State.writeSr_fsm (s : State) (id : Byte) (v : Half) : (s.writeSr id v).fsm = s.fsm := rfl
@[simp] theorem State.writeSr_armed (s : State) (id : Byte) (v : Half) : (s.writeSr id v).armed = s.armed := rfl
@[simp] theorem State.writeSr_last (s : State) (id : Byte) (v : Half) : (s.writeSr id v).last = s.last := rfl
@[simp] theorem State.writeSr_ready (s : State) (id : Byte) (v : Half) : (s.writeSr id v).ready = s.ready := rfl
@[simp] theorem State.writeSr_eng (s : State) (id : Byte) (v : Half) : (s.writeSr id v).eng = s.eng := rfl
@[simp] theorem State.writeSr_seq (s : State) (id : Byte) (v : Half) : (s.writeSr id v).seq = s.seq := rfl
@[simp] theorem State.writeSr_result (s : State) (id : Byte) (v : Half) : (s.writeSr id v).result = s.result := rfl
@[simp] theorem State.writeSr_opt (s : State) (id : Byte) (v : Half) : (s.writeSr id v).opt = s.opt := rfl
@[simp] theorem State.writeSr_slot (s : State) (id : Byte) (v : Half) : (s.writeSr id v).slot = s.slot := rfl
@[simp] theorem State.writeSr_busLog (s : State) (id : Byte) (v : Half) : (s.writeSr id v).busLog = s.busLog := rfl
@[simp] theorem State.writeSr_memLog (s : State) (id : Byte) (v : Half) : (s.writeSr id v).memLog = s.memLog := rfl
@[simp] theorem State.writeSr_mem (s : State) (id : Byte) (v : Half) : (s.writeSr id v).mem = s.mem := rfl
@[simp] theorem State.writeSr_params (s : State) (id : Byte) (v : Half) : (s.writeSr id v).params = s.params := rfl
@[simp] theorem State.writeSr_ctx (s : State) (id : Byte) (v : Half) : (s.writeSr id v).ctx = s.ctx := rfl
@[simp] theorem State.writeSr_stream (s : State) (id : Byte) (v : Half) : (s.writeSr id v).stream = s.stream := rfl
@[simp] theorem State.writeSr_hostActs (s : State) (id : Byte) (v : Half) : (s.writeSr id v).hostActs = s.hostActs := rfl
@[simp] theorem State.writeSr_hostReads (s : State) (id : Byte) (v : Half) : (s.writeSr id v).hostReads = s.hostReads := rfl
@[simp] theorem State.writeSr_responses (s : State) (id : Byte) (v : Half) : (s.writeSr id v).responses = s.responses := rfl
@[simp] theorem State.writeSr_env (s : State) (id : Byte) (v : Half) : (s.writeSr id v).env = s.env := rfl

/-! ### logBus -/

@[simp] theorem State.logBus_rx (s : State) (e : BusEntry) : (s.logBus e).rx = s.rx := rfl
@[simp] theorem State.logBus_pwr (s : State) (e : BusEntry) : (s.logBus e).pwr = s.pwr := rfl
@[simp] theorem State.logBus_ie (s : State) (e : BusEntry) : (s.logBus e).ie = s.ie := rfl
@[simp] theorem State.logBus_pend (s : State) (e : BusEntry) : (s.logBus e).pend = s.pend := rfl
@[simp] theorem State.logBus_fp (s : State) (e : BusEntry) : (s.logBus e).fp = s.fp := rfl
@[simp] theorem State.logBus_fsm (s : State) (e : BusEntry) : (s.logBus e).fsm = s.fsm := rfl
@[simp] theorem State.logBus_armed (s : State) (e : BusEntry) : (s.logBus e).armed = s.armed := rfl
@[simp] theorem State.logBus_last (s : State) (e : BusEntry) : (s.logBus e).last = s.last := rfl
@[simp] theorem State.logBus_ready (s : State) (e : BusEntry) : (s.logBus e).ready = s.ready := rfl
@[simp] theorem State.logBus_eng (s : State) (e : BusEntry) : (s.logBus e).eng = s.eng := rfl
@[simp] theorem State.logBus_seq (s : State) (e : BusEntry) : (s.logBus e).seq = s.seq := rfl
@[simp] theorem State.logBus_result (s : State) (e : BusEntry) : (s.logBus e).result = s.result := rfl
@[simp] theorem State.logBus_opt (s : State) (e : BusEntry) : (s.logBus e).opt = s.opt := rfl
@[simp] theorem State.logBus_slot (s : State) (e : BusEntry) : (s.logBus e).slot = s.slot := rfl
@[simp] theorem State.logBus_busLog (s : State) (e : BusEntry) : (s.logBus e).busLog = s.busLog ++ [e] := rfl
@[simp] theorem State.logBus_memLog (s : State) (e : BusEntry) : (s.logBus e).memLog = s.memLog := rfl
@[simp] theorem State.logBus_sr (s : State) (e : BusEntry) : (s.logBus e).sr = s.sr := rfl
@[simp] theorem State.logBus_mem (s : State) (e : BusEntry) : (s.logBus e).mem = s.mem := rfl
@[simp] theorem State.logBus_params (s : State) (e : BusEntry) : (s.logBus e).params = s.params := rfl
@[simp] theorem State.logBus_ctx (s : State) (e : BusEntry) : (s.logBus e).ctx = s.ctx := rfl
@[simp] theorem State.logBus_stream (s : State) (e : BusEntry) : (s.logBus e).stream = s.stream := rfl
@[simp] theorem State.logBus_hostActs (s : State) (e : BusEntry) : (s.logBus e).hostActs = s.hostActs := rfl
@[simp] theorem State.logBus_hostReads (s : State) (e : BusEntry) : (s.logBus e).hostReads = s.hostReads := rfl
@[simp] theorem State.logBus_responses (s : State) (e : BusEntry) : (s.logBus e).responses = s.responses := rfl
@[simp] theorem State.logBus_env (s : State) (e : BusEntry) : (s.logBus e).env = s.env := rfl

/-! ### respondTo -/

@[simp] theorem respondTo_rx (c : Ctx) (code : Code) (data : Word) (s : State) : (respondTo c code data s).rx = s.rx := rfl
@[simp] theorem respondTo_pwr (c : Ctx) (code : Code) (data : Word) (s : State) : (respondTo c code data s).pwr = s.pwr := rfl
@[simp] theorem respondTo_ie (c : Ctx) (code : Code) (data : Word) (s : State) : (respondTo c code data s).ie = s.ie := rfl
@[simp] theorem respondTo_pend (c : Ctx) (code : Code) (data : Word) (s : State) : (respondTo c code data s).pend = s.pend := rfl
@[simp] theorem respondTo_fp (c : Ctx) (code : Code) (data : Word) (s : State) : (respondTo c code data s).fp = s.fp := rfl
@[simp] theorem respondTo_fsm (c : Ctx) (code : Code) (data : Word) (s : State) : (respondTo c code data s).fsm = s.fsm := rfl
@[simp] theorem respondTo_armed (c : Ctx) (code : Code) (data : Word) (s : State) : (respondTo c code data s).armed = s.armed := rfl
@[simp] theorem respondTo_last (c : Ctx) (code : Code) (data : Word) (s : State) : (respondTo c code data s).last = s.last := rfl
@[simp] theorem respondTo_ready (c : Ctx) (code : Code) (data : Word) (s : State) : (respondTo c code data s).ready = s.ready := rfl
@[simp] theorem respondTo_eng (c : Ctx) (code : Code) (data : Word) (s : State) : (respondTo c code data s).eng = s.eng := rfl
@[simp] theorem respondTo_seq (c : Ctx) (code : Code) (data : Word) (s : State) : (respondTo c code data s).seq = s.seq := rfl
@[simp] theorem respondTo_result (c : Ctx) (code : Code) (data : Word) (s : State) : (respondTo c code data s).result = s.result := rfl
@[simp] theorem respondTo_opt (c : Ctx) (code : Code) (data : Word) (s : State) : (respondTo c code data s).opt = s.opt := rfl
@[simp] theorem respondTo_slot (c : Ctx) (code : Code) (data : Word) (s : State) : (respondTo c code data s).slot = s.slot.set c none := rfl
@[simp] theorem respondTo_busLog (c : Ctx) (code : Code) (data : Word) (s : State) : (respondTo c code data s).busLog = s.busLog := rfl
@[simp] theorem respondTo_memLog (c : Ctx) (code : Code) (data : Word) (s : State) : (respondTo c code data s).memLog = s.memLog := rfl
@[simp] theorem respondTo_sr (c : Ctx) (code : Code) (data : Word) (s : State) : (respondTo c code data s).sr = s.sr := rfl
@[simp] theorem respondTo_mem (c : Ctx) (code : Code) (data : Word) (s : State) : (respondTo c code data s).mem = s.mem := rfl
@[simp] theorem respondTo_params (c : Ctx) (code : Code) (data : Word) (s : State) : (respondTo c code data s).params = s.params := rfl
@[simp] theorem respondTo_ctx (c : Ctx) (code : Code) (data : Word) (s : State) : (respondTo c code data s).ctx = s.ctx := rfl
@[simp] theorem respondTo_stream (c : Ctx) (code : Code) (data : Word) (s : State) : (respondTo c code data s).stream = s.stream := rfl
@[simp] theorem respondTo_hostActs (c : Ctx) (code : Code) (data : Word) (s : State) : (respondTo c code data s).hostActs = s.hostActs := rfl
@[simp] theorem respondTo_hostReads (c : Ctx) (code : Code) (data : Word) (s : State) : (respondTo c code data s).hostReads = s.hostReads := rfl
@[simp] theorem respondTo_responses (c : Ctx) (code : Code) (data : Word) (s : State) :
    (respondTo c code data s).responses = s.responses.set c (s.responses.get c ++ [⟨code, data⟩]) := rfl
@[simp] theorem respondTo_env (c : Ctx) (code : Code) (data : Word) (s : State) : (respondTo c code data s).env = s.env := rfl

/-! ### respond -/

@[simp] theorem respond_rx (code : Code) (data : Word) (s : State) : (respond code data s).rx = s.rx := rfl
@[simp] theorem respond_pwr (code : Code) (data : Word) (s : State) : (respond code data s).pwr = s.pwr := rfl
@[simp] theorem respond_ie (code : Code) (data : Word) (s : State) : (respond code data s).ie = s.ie := rfl
@[simp] theorem respond_pend (code : Code) (data : Word) (s : State) : (respond code data s).pend = s.pend := rfl
@[simp] theorem respond_fp (code : Code) (data : Word) (s : State) : (respond code data s).fp = s.fp := rfl
@[simp] theorem respond_fsm (code : Code) (data : Word) (s : State) : (respond code data s).fsm = s.fsm := rfl
@[simp] theorem respond_armed (code : Code) (data : Word) (s : State) : (respond code data s).armed = s.armed := rfl
@[simp] theorem respond_last (code : Code) (data : Word) (s : State) : (respond code data s).last = s.last := rfl
@[simp] theorem respond_ready (code : Code) (data : Word) (s : State) : (respond code data s).ready = s.ready := rfl
@[simp] theorem respond_eng (code : Code) (data : Word) (s : State) : (respond code data s).eng = s.eng := rfl
@[simp] theorem respond_seq (code : Code) (data : Word) (s : State) : (respond code data s).seq = s.seq := rfl
@[simp] theorem respond_result (code : Code) (data : Word) (s : State) : (respond code data s).result = s.result := rfl
@[simp] theorem respond_opt (code : Code) (data : Word) (s : State) : (respond code data s).opt = s.opt := rfl
@[simp] theorem respond_slot (code : Code) (data : Word) (s : State) : (respond code data s).slot = s.slot.set s.ctx none := rfl
@[simp] theorem respond_busLog (code : Code) (data : Word) (s : State) : (respond code data s).busLog = s.busLog := rfl
@[simp] theorem respond_memLog (code : Code) (data : Word) (s : State) : (respond code data s).memLog = s.memLog := rfl
@[simp] theorem respond_sr (code : Code) (data : Word) (s : State) : (respond code data s).sr = s.sr := rfl
@[simp] theorem respond_mem (code : Code) (data : Word) (s : State) : (respond code data s).mem = s.mem := rfl
@[simp] theorem respond_params (code : Code) (data : Word) (s : State) : (respond code data s).params = s.params := rfl
@[simp] theorem respond_ctx (code : Code) (data : Word) (s : State) : (respond code data s).ctx = s.ctx := rfl
@[simp] theorem respond_stream (code : Code) (data : Word) (s : State) : (respond code data s).stream = s.stream := rfl
@[simp] theorem respond_hostActs (code : Code) (data : Word) (s : State) : (respond code data s).hostActs = s.hostActs := rfl
@[simp] theorem respond_hostReads (code : Code) (data : Word) (s : State) : (respond code data s).hostReads = s.hostReads := rfl
@[simp] theorem respond_responses (code : Code) (data : Word) (s : State) :
    (respond code data s).responses = s.responses.set s.ctx (s.responses.get s.ctx ++ [⟨code, data⟩]) := rfl
@[simp] theorem respond_env (code : Code) (data : Word) (s : State) : (respond code data s).env = s.env := rfl

/-! ### hold -/

@[simp] theorem hold_rx (h : Held) (s : State) : (hold h s).rx = s.rx := rfl
@[simp] theorem hold_pwr (h : Held) (s : State) : (hold h s).pwr = s.pwr := rfl
@[simp] theorem hold_ie (h : Held) (s : State) : (hold h s).ie = s.ie := rfl
@[simp] theorem hold_pend (h : Held) (s : State) : (hold h s).pend = s.pend := rfl
@[simp] theorem hold_fp (h : Held) (s : State) : (hold h s).fp = s.fp := rfl
@[simp] theorem hold_fsm (h : Held) (s : State) : (hold h s).fsm = s.fsm := rfl
@[simp] theorem hold_armed (h : Held) (s : State) : (hold h s).armed = s.armed := rfl
@[simp] theorem hold_last (h : Held) (s : State) : (hold h s).last = s.last := rfl
@[simp] theorem hold_ready (h : Held) (s : State) : (hold h s).ready = s.ready := rfl
@[simp] theorem hold_eng (h : Held) (s : State) : (hold h s).eng = s.eng := rfl
@[simp] theorem hold_seq (h : Held) (s : State) : (hold h s).seq = s.seq := rfl
@[simp] theorem hold_result (h : Held) (s : State) : (hold h s).result = s.result := rfl
@[simp] theorem hold_opt (h : Held) (s : State) : (hold h s).opt = s.opt := rfl
@[simp] theorem hold_slot (h : Held) (s : State) : (hold h s).slot = s.slot.set s.ctx (some h) := rfl
@[simp] theorem hold_busLog (h : Held) (s : State) : (hold h s).busLog = s.busLog := rfl
@[simp] theorem hold_memLog (h : Held) (s : State) : (hold h s).memLog = s.memLog := rfl
@[simp] theorem hold_sr (h : Held) (s : State) : (hold h s).sr = s.sr := rfl
@[simp] theorem hold_mem (h : Held) (s : State) : (hold h s).mem = s.mem := rfl
@[simp] theorem hold_params (h : Held) (s : State) : (hold h s).params = s.params := rfl
@[simp] theorem hold_ctx (h : Held) (s : State) : (hold h s).ctx = s.ctx := rfl
@[simp] theorem hold_stream (h : Held) (s : State) : (hold h s).stream = s.stream := rfl
@[simp] theorem hold_hostActs (h : Held) (s : State) : (hold h s).hostActs = s.hostActs := rfl
@[simp] theorem hold_hostReads (h : Held) (s : State) : (hold h s).hostReads = s.hostReads := rfl
@[simp] theorem hold_responses (h : Held) (s : State) : (hold h s).responses = s.responses := rfl
@[simp] theorem hold_env (h : Held) (s : State) : (hold h s).env = s.env := rfl

/-! ### asCtx -/

@[simp] theorem asCtx_rx (c : Ctx) (s : State) : (asCtx c s).rx = s.rx := rfl
@[simp] theorem asCtx_pwr (c : Ctx) (s : State) : (asCtx c s).pwr = s.pwr := rfl
@[simp] theorem asCtx_ie (c : Ctx) (s : State) : (asCtx c s).ie = s.ie := rfl
@[simp] theorem asCtx_pend (c : Ctx) (s : State) : (asCtx c s).pend = s.pend := rfl
@[simp] theorem asCtx_fp (c : Ctx) (s : State) : (asCtx c s).fp = s.fp := rfl
@[simp] theorem asCtx_fsm (c : Ctx) (s : State) : (asCtx c s).fsm = s.fsm := rfl
@[simp] theorem asCtx_armed (c : Ctx) (s : State) : (asCtx c s).armed = s.armed := rfl
@[simp] theorem asCtx_last (c : Ctx) (s : State) : (asCtx c s).last = s.last := rfl
@[simp] theorem asCtx_ready (c : Ctx) (s : State) : (asCtx c s).ready = s.ready := rfl
@[simp] theorem asCtx_eng (c : Ctx) (s : State) : (asCtx c s).eng = s.eng := rfl
@[simp] theorem asCtx_seq (c : Ctx) (s : State) : (asCtx c s).seq = s.seq := rfl
@[simp] theorem asCtx_result (c : Ctx) (s : State) : (asCtx c s).result = s.result := rfl
@[simp] theorem asCtx_opt (c : Ctx) (s : State) : (asCtx c s).opt = s.opt := rfl
@[simp] theorem asCtx_slot (c : Ctx) (s : State) : (asCtx c s).slot = s.slot := rfl
@[simp] theorem asCtx_busLog (c : Ctx) (s : State) : (asCtx c s).busLog = s.busLog := rfl
@[simp] theorem asCtx_memLog (c : Ctx) (s : State) : (asCtx c s).memLog = s.memLog := rfl
@[simp] theorem asCtx_sr (c : Ctx) (s : State) : (asCtx c s).sr = s.sr := rfl
@[simp] theorem asCtx_mem (c : Ctx) (s : State) : (asCtx c s).mem = s.mem := rfl
@[simp] theorem asCtx_params (c : Ctx) (s : State) : (asCtx c s).params = s.params := rfl
@[simp] theorem asCtx_ctx (c : Ctx) (s : State) : (asCtx c s).ctx = c := rfl
@[simp] theorem asCtx_stream (c : Ctx) (s : State) : (asCtx c s).stream = s.stream := rfl
@[simp] theorem asCtx_hostActs (c : Ctx) (s : State) : (asCtx c s).hostActs = s.hostActs := rfl
@[simp] theorem asCtx_hostReads (c : Ctx) (s : State) : (asCtx c s).hostReads = s.hostReads := rfl
@[simp] theorem asCtx_responses (c : Ctx) (s : State) : (asCtx c s).responses = s.responses := rfl
@[simp] theorem asCtx_env (c : Ctx) (s : State) : (asCtx c s).env = s.env := rfl

/-! ### issue -/

@[simp] theorem issue_rx (c : Ctx) (rest : List CmdWord) (s : State) : (issue c rest s).rx = s.rx := rfl
@[simp] theorem issue_pwr (c : Ctx) (rest : List CmdWord) (s : State) : (issue c rest s).pwr = s.pwr := rfl
@[simp] theorem issue_ie (c : Ctx) (rest : List CmdWord) (s : State) : (issue c rest s).ie = s.ie := rfl
@[simp] theorem issue_pend (c : Ctx) (rest : List CmdWord) (s : State) : (issue c rest s).pend = s.pend := rfl
@[simp] theorem issue_fp (c : Ctx) (rest : List CmdWord) (s : State) : (issue c rest s).fp = s.fp := rfl
@[simp] theorem issue_fsm (c : Ctx) (rest : List CmdWord) (s : State) : (issue c rest s).fsm = s.fsm := rfl
@[simp] theorem issue_armed (c : Ctx) (rest : List CmdWord) (s : State) : (issue c rest s).armed = s.armed := rfl
@[simp] theorem issue_last (c : Ctx) (rest : List CmdWord) (s : State) : (issue c rest s).last = s.last := rfl
@[simp] theorem issue_ready (c : Ctx) (rest : List CmdWord) (s : State) : (issue c rest s).ready = s.ready := rfl
@[simp] theorem issue_eng (c : Ctx) (rest : List CmdWord) (s : State) : (issue c rest s).eng = s.eng := rfl
@[simp] theorem issue_seq (c : Ctx) (rest : List CmdWord) (s : State) : (issue c rest s).seq = s.seq := rfl
@[simp] theorem issue_result (c : Ctx) (rest : List CmdWord) (s : State) : (issue c rest s).result = s.result := rfl
@[simp] theorem issue_opt (c : Ctx) (rest : List CmdWord) (s : State) : (issue c rest s).opt = s.opt := rfl
@[simp] theorem issue_slot (c : Ctx) (rest : List CmdWord) (s : State) : (issue c rest s).slot = s.slot := rfl
@[simp] theorem issue_busLog (c : Ctx) (rest : List CmdWord) (s : State) : (issue c rest s).busLog = s.busLog := rfl
@[simp] theorem issue_memLog (c : Ctx) (rest : List CmdWord) (s : State) : (issue c rest s).memLog = s.memLog := rfl
@[simp] theorem issue_sr (c : Ctx) (rest : List CmdWord) (s : State) : (issue c rest s).sr = s.sr := rfl
@[simp] theorem issue_mem (c : Ctx) (rest : List CmdWord) (s : State) : (issue c rest s).mem = s.mem := rfl
@[simp] theorem issue_params (c : Ctx) (rest : List CmdWord) (s : State) : (issue c rest s).params = s.params := rfl
@[simp] theorem issue_ctx (c : Ctx) (rest : List CmdWord) (s : State) : (issue c rest s).ctx = c := rfl
@[simp] theorem issue_stream (c : Ctx) (rest : List CmdWord) (s : State) : (issue c rest s).stream = s.stream.set c rest := rfl
@[simp] theorem issue_hostActs (c : Ctx) (rest : List CmdWord) (s : State) : (issue c rest s).hostActs = s.hostActs := rfl
@[simp] theorem issue_hostReads (c : Ctx) (rest : List CmdWord) (s : State) : (issue c rest s).hostReads = s.hostReads := rfl
@[simp] theorem issue_responses (c : Ctx) (rest : List CmdWord) (s : State) : (issue c rest s).responses = s.responses := rfl
@[simp] theorem issue_env (c : Ctx) (rest : List CmdWord) (s : State) : (issue c rest s).env = s.env := rfl

/-! ### Draws -/

@[simp] theorem Env.takeAgent_agents (e : Env) : e.takeAgent.agents = e.agents.tail := rfl
@[simp] theorem Env.takeAgent_busOk (e : Env) : e.takeAgent.busOk = e.busOk := rfl
@[simp] theorem Env.takeAgent_timeouts (e : Env) : e.takeAgent.timeouts = e.timeouts := rfl
@[simp] theorem Env.takeAgent_pixels (e : Env) : e.takeAgent.pixels = e.pixels := rfl
@[simp] theorem Env.takeAgent_sensorVals (e : Env) : e.takeAgent.sensorVals = e.sensorVals := rfl
@[simp] theorem Env.takeAgent_words (e : Env) : e.takeAgent.words = e.words := rfl
@[simp] theorem Env.takeAgent_drawn (e : Env) : e.takeAgent.drawn = e.drawn + 1 := rfl
@[simp] theorem Env.takeBusOk_agents (e : Env) : e.takeBusOk.agents = e.agents := rfl
@[simp] theorem Env.takeBusOk_busOk (e : Env) : e.takeBusOk.busOk = e.busOk.tail := rfl
@[simp] theorem Env.takeBusOk_timeouts (e : Env) : e.takeBusOk.timeouts = e.timeouts := rfl
@[simp] theorem Env.takeBusOk_pixels (e : Env) : e.takeBusOk.pixels = e.pixels := rfl
@[simp] theorem Env.takeBusOk_sensorVals (e : Env) : e.takeBusOk.sensorVals = e.sensorVals := rfl
@[simp] theorem Env.takeBusOk_words (e : Env) : e.takeBusOk.words = e.words := rfl
@[simp] theorem Env.takeBusOk_drawn (e : Env) : e.takeBusOk.drawn = e.drawn + 1 := rfl
@[simp] theorem Env.takeTimeout_agents (e : Env) : e.takeTimeout.agents = e.agents := rfl
@[simp] theorem Env.takeTimeout_busOk (e : Env) : e.takeTimeout.busOk = e.busOk := rfl
@[simp] theorem Env.takeTimeout_timeouts (e : Env) : e.takeTimeout.timeouts = e.timeouts.tail := rfl
@[simp] theorem Env.takeTimeout_pixels (e : Env) : e.takeTimeout.pixels = e.pixels := rfl
@[simp] theorem Env.takeTimeout_sensorVals (e : Env) : e.takeTimeout.sensorVals = e.sensorVals := rfl
@[simp] theorem Env.takeTimeout_words (e : Env) : e.takeTimeout.words = e.words := rfl
@[simp] theorem Env.takeTimeout_drawn (e : Env) : e.takeTimeout.drawn = e.drawn + 1 := rfl
@[simp] theorem Env.takePixel_agents (e : Env) : e.takePixel.agents = e.agents := rfl
@[simp] theorem Env.takePixel_busOk (e : Env) : e.takePixel.busOk = e.busOk := rfl
@[simp] theorem Env.takePixel_timeouts (e : Env) : e.takePixel.timeouts = e.timeouts := rfl
@[simp] theorem Env.takePixel_pixels (e : Env) : e.takePixel.pixels = e.pixels.tail := rfl
@[simp] theorem Env.takePixel_sensorVals (e : Env) : e.takePixel.sensorVals = e.sensorVals := rfl
@[simp] theorem Env.takePixel_words (e : Env) : e.takePixel.words = e.words := rfl
@[simp] theorem Env.takePixel_drawn (e : Env) : e.takePixel.drawn = e.drawn + 1 := rfl
@[simp] theorem Env.takeSensorVal_agents (e : Env) : e.takeSensorVal.agents = e.agents := rfl
@[simp] theorem Env.takeSensorVal_busOk (e : Env) : e.takeSensorVal.busOk = e.busOk := rfl
@[simp] theorem Env.takeSensorVal_timeouts (e : Env) : e.takeSensorVal.timeouts = e.timeouts := rfl
@[simp] theorem Env.takeSensorVal_pixels (e : Env) : e.takeSensorVal.pixels = e.pixels := rfl
@[simp] theorem Env.takeSensorVal_sensorVals (e : Env) : e.takeSensorVal.sensorVals = e.sensorVals.tail := rfl
@[simp] theorem Env.takeSensorVal_words (e : Env) : e.takeSensorVal.words = e.words := rfl
@[simp] theorem Env.takeSensorVal_drawn (e : Env) : e.takeSensorVal.drawn = e.drawn + 1 := rfl
@[simp] theorem Env.takeWord_agents (e : Env) : e.takeWord.agents = e.agents := rfl
@[simp] theorem Env.takeWord_busOk (e : Env) : e.takeWord.busOk = e.busOk := rfl
@[simp] theorem Env.takeWord_timeouts (e : Env) : e.takeWord.timeouts = e.timeouts := rfl
@[simp] theorem Env.takeWord_pixels (e : Env) : e.takeWord.pixels = e.pixels := rfl
@[simp] theorem Env.takeWord_sensorVals (e : Env) : e.takeWord.sensorVals = e.sensorVals := rfl
@[simp] theorem Env.takeWord_words (e : Env) : e.takeWord.words = e.words.tail := rfl
@[simp] theorem Env.takeWord_drawn (e : Env) : e.takeWord.drawn = e.drawn + 1 := rfl

end Sys2Proof.Machine
end

