-- ==== Sys2Proof/Laws/Bus.lean ====
section
/-!
SUPPORT. What a sensor bus transaction can do (42_sensor_interface.md R160, R161, R163), said once: its result, what it
does to SR, the log and the draws, and that it changes nothing else.
-/
namespace Sys2Proof.Machine

theorem State.readSr_writeSr_same (s : State) (id : Byte) (v : Half) : (s.writeSr id v).readSr id = v := by
  simp [State.readSr, State.writeSr]

theorem State.readSr_writeSr_other (s : State) {id j : Byte} (h : j ≠ id) (v : Half) :
    (s.writeSr id v).readSr j = s.readSr j := by
  have hne : id.toNat ≠ j.toNat := fun e => h (BitVec.eq_of_toNat_eq e.symm)
  simp [State.readSr, State.writeSr, Vector.getElem_set_ne _ _ hne]

/-- A value sent most significant byte first and reassembled in that order is the value (R75). -/
@[simp] theorem ofWire_bytes (v : Half) : ofWire (v.extractLsb' 8 8) (v.extractLsb' 0 8) = v := by
  apply BitVec.eq_of_getLsbD_eq
  intro i hi
  unfold ofWire
  rw [BitVec.getLsbD_append, BitVec.getLsbD_extractLsb', BitVec.getLsbD_extractLsb']
  by_cases h8 : i < 8
  · simp [h8]
  · rw [show 8 + (i - 8) = i by omega]
    simp [h8, show i - 8 < 8 by omega]

theorem busWrite_fst (id : Byte) (v : Half) (s : State) : (busWrite id v s).1 = s.nextBusOk := rfl

/-- A successful write: SR[id] holds the value. -/
theorem busWrite_ok {id : Byte} {v : Half} {s : State} (h : s.nextBusOk = true) :
    busWrite id v s = (true, ((s.withEnv s.env.takeBusOk).writeSr id v).logBus ⟨.write, id, v, true⟩) := by
  simp [busWrite, h]

/-- A failed write: SR[id] is a draw. -/
theorem busWrite_fail {id : Byte} {v : Half} {s : State} (h : s.nextBusOk = false) :
    busWrite id v s =
      (false, ((((s.withEnv s.env.takeBusOk).writeSr id (s.withEnv s.env.takeBusOk).nextSensorVal)).withEnv
        s.env.takeBusOk.takeSensorVal).logBus ⟨.write, id, v, false⟩) := by
  simp [busWrite, h]

/-- A write transaction changes SR, the log and the draws only. -/
theorem busWrite_frame (id : Byte) (v : Half) (s : State) :
    (busWrite id v s).2 = { s with sr := (busWrite id v s).2.sr, busLog := s.busLog ++ [⟨.write, id, v, s.nextBusOk⟩],
                                   env := (busWrite id v s).2.env } := by
  unfold busWrite
  dsimp only
  split <;> rfl

/-- A read that succeeds in the Stored model returns SR[id]. -/
theorem busRead_stored {id : Byte} {s : State} (h : s.nextBusOk = true) (hm : s.params.readModel = .stored) :
    busRead id s = (some (s.readSr id), (s.withEnv s.env.takeBusOk).logBus ⟨.read, id, s.readSr id, true⟩) := by
  simp [busRead, h, hm, State.readSr]

/-- A read that succeeds in the Oracle model returns a draw. -/
theorem busRead_oracle {id : Byte} {s : State} (h : s.nextBusOk = true) (hm : s.params.readModel = .oracle) :
    busRead id s =
      (some (s.withEnv s.env.takeBusOk).nextSensorVal,
        (s.withEnv s.env.takeBusOk.takeSensorVal).logBus
          ⟨.read, id, (s.withEnv s.env.takeBusOk).nextSensorVal, true⟩) := by
  simp [busRead, h, hm, State.withEnv]

/-- A failed read returns no value; the log records a draw. -/
theorem busRead_fail {id : Byte} {s : State} (h : s.nextBusOk = false) :
    busRead id s =
      (none, (s.withEnv s.env.takeBusOk.takeSensorVal).logBus
        ⟨.read, id, (s.withEnv s.env.takeBusOk).nextSensorVal, false⟩) := by
  simp [busRead, h, State.withEnv]

/-- A read transaction changes the log and the draws only. -/
theorem busRead_frame (id : Byte) (s : State) :
    (busRead id s).2 = { s with busLog := (busRead id s).2.busLog, env := (busRead id s).2.env } := by
  unfold busRead
  dsimp only
  split <;> rfl

end Sys2Proof.Machine
end

