-- ==== Sys2Proof/Laws/Config.lean ====
section
/-!
SUPPORT. The instance the machine starts with meets the constraints of 00_scope.md R8.
-/
namespace Sys2Proof

theorem Params.mt9p031Like_wf : Params.mt9p031Like.wf = true := by decide

theorem Config.accepted_wf (p : Params) : (Config.accepted p).wf = true := by
  unfold Config.accepted
  split
  · assumption
  · exact Params.mt9p031Like_wf

/-- An admissible instance is accepted as it is (so every admissible instance is reached). -/
theorem Config.accepted_of_wf {p : Params} (h : p.wf = true) : Config.accepted p = p := if_pos h

theorem Config.params_wf : Config.params.wf = true := Config.accepted_wf _

end Sys2Proof
end

