-- ==== Sys2Proof/Laws/Encoding.lean ====
section
/-!
SUPPORT. The fields of a command word built from fields (30_encoding.md R91), and the register offsets.
-/
namespace Sys2Proof

theorem CmdWord.getLsbD_ofFields (opc f8 : Byte) (v16 : Half) (a32 : Word) (i : Nat) :
    (CmdWord.ofFields opc f8 v16 a32).getLsbD i =
      if i < 32 then a32.getLsbD i
      else if i < 48 then v16.getLsbD (i - 32)
      else if i < 56 then f8.getLsbD (i - 48)
      else opc.getLsbD (i - 56) := by
  unfold CmdWord.ofFields
  rw [BitVec.getLsbD_append, BitVec.getLsbD_append, BitVec.getLsbD_append]
  by_cases h1 : i < 32
  · simp [h1]
  · by_cases h2 : i < 48
    · simp [h1, h2, show i - 32 < 16 by omega]
    · by_cases h3 : i < 56
      · simp [h1, h2, h3, show ¬ i - 32 < 16 by omega, show i - 32 - 16 = i - 48 by omega, show i - 48 < 8 by omega]
      · simp [h1, h2, h3, show ¬ i - 32 < 16 by omega, show i - 32 - 16 = i - 48 by omega,
          show ¬ i - 48 < 8 by omega, show i - 48 - 8 = i - 56 by omega]

@[simp] theorem CmdWord.opc_ofFields (opc f8 : Byte) (v16 : Half) (a32 : Word) :
    (CmdWord.ofFields opc f8 v16 a32).opc = opc := by
  apply BitVec.eq_of_getLsbD_eq
  intro i hi
  unfold CmdWord.opc
  rw [BitVec.getLsbD_extractLsb', CmdWord.getLsbD_ofFields]
  simp [hi, show ¬ 56 + i < 32 by omega, show ¬ 56 + i < 48 by omega]

@[simp] theorem CmdWord.f8_ofFields (opc f8 : Byte) (v16 : Half) (a32 : Word) :
    (CmdWord.ofFields opc f8 v16 a32).f8 = f8 := by
  apply BitVec.eq_of_getLsbD_eq
  intro i hi
  unfold CmdWord.f8
  rw [BitVec.getLsbD_extractLsb', CmdWord.getLsbD_ofFields]
  simp [hi, show ¬ 48 + i < 32 by omega, show 48 + i < 56 by omega]

@[simp] theorem CmdWord.v16_ofFields (opc f8 : Byte) (v16 : Half) (a32 : Word) :
    (CmdWord.ofFields opc f8 v16 a32).v16 = v16 := by
  apply BitVec.eq_of_getLsbD_eq
  intro i hi
  unfold CmdWord.v16
  rw [BitVec.getLsbD_extractLsb', CmdWord.getLsbD_ofFields]
  simp [hi, show 32 + i < 48 by omega]

@[simp] theorem CmdWord.a32_ofFields (opc f8 : Byte) (v16 : Half) (a32 : Word) :
    (CmdWord.ofFields opc f8 v16 a32).a32 = a32 := by
  apply BitVec.eq_of_getLsbD_eq
  intro i hi
  unfold CmdWord.a32
  rw [BitVec.getLsbD_extractLsb', CmdWord.getLsbD_ofFields]
  simp [hi]

/-- A word is its four fields. -/
theorem CmdWord.ofFields_fields (w : CmdWord) : CmdWord.ofFields w.opc w.f8 w.v16 w.a32 = w := by
  apply BitVec.eq_of_getLsbD_eq
  intro i hi
  rw [CmdWord.getLsbD_ofFields]
  unfold CmdWord.opc CmdWord.f8 CmdWord.v16 CmdWord.a32
  rw [BitVec.getLsbD_extractLsb', BitVec.getLsbD_extractLsb', BitVec.getLsbD_extractLsb', BitVec.getLsbD_extractLsb']
  split
  · simp [*]
  · split
    · rw [show 32 + (i - 32) = i by omega]
      simp [show i - 32 < 16 by omega]
    · split
      · rw [show 48 + (i - 48) = i by omega]
        simp [show i - 48 < 8 by omega]
      · rw [show 56 + (i - 56) = i by omega]
        simp [show i - 56 < 8 by omega]

theorem CmdWord.and_ofFields (o f o' f' : Byte) (v v' : Half) (a a' : Word) :
    CmdWord.ofFields o f v a &&& CmdWord.ofFields o' f' v' a' =
      CmdWord.ofFields (o &&& o') (f &&& f') (v &&& v') (a &&& a') := by
  apply BitVec.eq_of_getLsbD_eq
  intro i hi
  rw [BitVec.getLsbD_and, CmdWord.getLsbD_ofFields, CmdWord.getLsbD_ofFields, CmdWord.getLsbD_ofFields]
  split
  · simp
  · split
    · simp
    · split <;> simp

@[simp] theorem CtrlReg.ofBits_toBits (o : CtrlReg) : CtrlReg.ofBits o.toBits = o := by cases o <;> decide

theorem CtrlReg.toBits_ofBits : ∀ b : BitVec 2, (CtrlReg.ofBits b).toBits = b := by decide

end Sys2Proof
end

