-- ==== Sys2Proof/Laws/Memory.lean ====
section
/-!
SUPPORT. Frame memory: a read after a write, and that every write keeps the canonical form.
-/
namespace Sys2Proof.Machine

@[simp] theorem Memory.read_nil (a : Nat) : Memory.read [] a = none := rfl

theorem Memory.read_write_same (m : Memory) (a : Nat) (b : Byte) : (Memory.write m a b).read a = some b := by
  induction m with
  | nil => simp [Memory.write, Memory.read]
  | cons c m ih =>
    obtain ⟨k, v⟩ := c
    simp only [Memory.write]
    split
    · simp [Memory.read]
    · split
      · simp [Memory.read]
      · rename_i h1 h2
        simp only [Memory.read, if_neg (Ne.symm h2), ih]

theorem Memory.read_write_other (m : Memory) {a x : Nat} (h : x ≠ a) (b : Byte) :
    (Memory.write m a b).read x = Memory.read m x := by
  induction m with
  | nil => simp [Memory.write, Memory.read, Ne.symm h]
  | cons c m ih =>
    obtain ⟨k, v⟩ := c
    simp only [Memory.write]
    split
    · simp [Memory.read, Ne.symm h]
    · split
      · rename_i h1 h2
        subst h2
        simp [Memory.read, Ne.symm h]
      · simp only [Memory.read, ih]

/-- Every address of a written memory was there before or is the one written. -/
theorem Memory.mem_write {m : Memory} {a : Nat} {b : Byte} {c : Host.Cell} (h : c ∈ Memory.write m a b) :
    c = (a, b) ∨ c ∈ m := by
  induction m with
  | nil => simpa [Memory.write] using h
  | cons d m ih =>
    obtain ⟨k, v⟩ := d
    simp only [Memory.write] at h
    split at h
    · simpa using h
    · split at h
      · rcases List.mem_cons.1 h with h | h
        · exact .inl h
        · exact .inr (List.mem_cons_of_mem _ h)
      · rcases List.mem_cons.1 h with h | h
        · exact .inr (h ▸ List.mem_cons_self ..)
        · exact (ih h).imp id (List.mem_cons_of_mem _)

theorem Memory.write_pairwise {m : Memory} (a : Nat) (b : Byte) (h : m.Pairwise (fun x y => x.1 < y.1)) :
    (Memory.write m a b).Pairwise (fun x y => x.1 < y.1) := by
  induction m with
  | nil => simp [Memory.write]
  | cons c m ih =>
    obtain ⟨k, v⟩ := c
    have hk := List.pairwise_cons.1 h
    simp only [Memory.write]
    split
    · rename_i hlt
      refine List.pairwise_cons.2 ⟨fun d hd => ?_, h⟩
      rcases List.mem_cons.1 hd with rfl | hd
      · exact hlt
      · exact lt_trans hlt (hk.1 d hd)
    · split
      · rename_i heq
        subst heq
        exact List.pairwise_cons.2 ⟨hk.1, hk.2⟩
      · rename_i h1 h2
        refine List.pairwise_cons.2 ⟨fun d hd => ?_, ih hk.2⟩
        rcases Memory.mem_write hd with rfl | hd
        · show k < a
          omega
        · exact hk.1 d hd

theorem Memory.wf_nil : Memory.wf [] := ⟨List.Pairwise.nil, by simp⟩

/-- A write inside the address space keeps the canonical form. -/
theorem Memory.write_wf {m : Memory} (h : m.wf) {a : Nat} (ha : a < 2 ^ wordBits) (b : Byte) :
    (Memory.write m a b).wf := by
  refine ⟨Memory.write_pairwise a b h.1, fun c hc => ?_⟩
  rcases Memory.mem_write hc with rfl | hc
  · exact ha
  · exact h.2 c hc

/-- A MemWrite keeps the canonical form. -/
theorem Memory.writeBytes_wf {m : Memory} (h : m.wf) (a : Word) (bs : List Byte) : (m.writeBytes a bs).wf := by
  induction bs generalizing m a with
  | nil => exact h
  | cons b bs ih => exact ih (Memory.write_wf h a.isLt b) (a + 1#32)

/-- A MemWrite of two bytes leaves every other address alone. -/
theorem Memory.read_writeBytes_two {m : Memory} {a : Word} {b0 b1 : Byte} {x : Nat} (h0 : x ≠ a.toNat)
    (h1 : x ≠ (a + 1#32).toNat) : (m.writeBytes a [b0, b1]).read x = m.read x := by
  simp only [Memory.writeBytes]
  rw [Memory.read_write_other _ h1, Memory.read_write_other _ h0]

/-- A MemWrite leaves every address outside its bytes alone. -/
theorem Memory.read_writeBytes_other (m : Memory) (a : Word) (bs : List Byte) {x : Nat}
    (h : ∀ k, k < bs.length → x ≠ (a + BitVec.ofNat 32 k).toNat) : (m.writeBytes a bs).read x = m.read x := by
  induction bs generalizing m a with
  | nil => rfl
  | cons b bs ih =>
    have h0 : x ≠ a.toNat := by simpa using h 0 (by simp)
    rw [Memory.writeBytes, ih, Memory.read_write_other _ h0]
    intro k hk
    have := h (k + 1) (by simpa using hk)
    rwa [show BitVec.ofNat 32 (k + 1) = 1#32 + BitVec.ofNat 32 k by rw [Nat.add_comm, BitVec.ofNat_add],
      ← BitVec.add_assoc] at this

/-- A MemWrite of at most 2^32 bytes stores each of them, at addresses modulo 2^32. -/
theorem Memory.read_writeBytes (m : Memory) (a : Word) {bs : List Byte} (hl : bs.length ≤ 2 ^ 32) {k : Nat} {b : Byte}
    (hb : bs[k]? = some b) : (m.writeBytes a bs).read (a + BitVec.ofNat 32 k).toNat = some b := by
  induction bs generalizing m a k with
  | nil => simp at hb
  | cons c bs ih =>
    simp only [List.length_cons] at hl
    cases k with
    | zero =>
      obtain rfl : c = b := by simpa using hb
      rw [Memory.writeBytes, Memory.read_writeBytes_other]
      · simpa using Memory.read_write_same m a.toNat c
      · intro j hj e
        simp only [BitVec.toNat_add, BitVec.toNat_ofNat] at e
        have := a.isLt
        omega
    | succ k =>
      rw [show BitVec.ofNat 32 (k + 1) = 1#32 + BitVec.ofNat 32 k by rw [Nat.add_comm, BitVec.ofNat_add],
        ← BitVec.add_assoc]
      exact ih _ _ (by omega) (by simpa using hb)

@[simp] theorem Memory.length_readBytes (m : Memory) (a : Word) (n : Nat) : (m.readBytes a n).length = n := by
  induction n generalizing a with
  | zero => rfl
  | succ n ih => simp [Memory.readBytes, ih]

/-- A MemRead returns at each address the byte the host sees there. -/
theorem Memory.readBytes_getElem? (m : Memory) (a : Word) {n k : Nat} (h : k < n) :
    (m.readBytes a n)[k]? = some (m.hostByte (a + BitVec.ofNat 32 k)) := by
  induction n generalizing a k with
  | zero => omega
  | succ n ih =>
    cases k with
    | zero => simp [Memory.readBytes]
    | succ k =>
      rw [show BitVec.ofNat 32 (k + 1) = 1#32 + BitVec.ofNat 32 k by rw [Nat.add_comm, BitVec.ofNat_add],
        ← BitVec.add_assoc]
      simpa [Memory.readBytes] using ih (a + 1#32) (k := k) (by omega)

/-- The host sees the byte written. -/
theorem Memory.hostByte_of_read {m : Memory} {a : Word} {b : Byte} (h : m.read a.toNat = some b) : m.hostByte a = b := by
  simp [Memory.hostByte, h]

end Sys2Proof.Machine
end

