-- ==== Sys2Proof/Laws/PerInstr.lean ====
section
/-!
SUPPORT. The family EncodesRow: the word of a command selects the command's row of the opcode map (30_encoding.md R94),
one lemma per constructor.
-/
namespace Sys2Proof.Laws.EncodesRow

/-- The command's word, under its row's mask, is the row's pattern. -/
def Statement (i : Instr) : Prop := encode i &&& i.row.mask = i.row.pattern

/-- A row's mask and pattern, cut into fields, decide the statement field by field. -/
theorem of_fields {o f : Byte} {v : Half} {a : Word} {pattern mask : CmdWord} (fm : Byte) (vm : Half) (am : Word)
    (hm : mask = .ofFields 0xFF#8 fm vm am) (hp : pattern = .ofFields o 0#8 0#16 0#32) (hf : f &&& fm = 0#8)
    (hv : v &&& vm = 0#16) (ha : a &&& am = 0#32) : CmdWord.ofFields o f v a &&& mask = pattern := by
  rw [hm, hp, CmdWord.and_ofFields, hf, hv, ha]
  congr 1
  exact BitVec.and_allOnes

theorem regRd (o : CtrlReg) : Statement (.regRd o) :=
  of_fields 0xFC#8 0xFFFF#16 0xFFFFFFFF#32 rfl rfl (by cases o <;> decide) (by decide) (by decide)

theorem regWr (o : CtrlReg) (d : Word) : Statement (.regWr o d) :=
  of_fields 0xFC#8 0xFFFF#16 0#32 rfl rfl (by cases o <;> decide) (by decide) BitVec.and_zero

theorem enable : Statement .enable := rfl

theorem disable : Statement .disable := rfl

theorem enableRx : Statement .enableRx := rfl

theorem disableRx : Statement .disableRx := rfl

theorem setIrqEn (b : Bool) : Statement (.setIrqEn b) := by cases b <;> rfl

theorem frameReady : Statement .frameReady := rfl

theorem setTarget (a : Word) : Statement (.setTarget a) :=
  of_fields 0xFF#8 0xFFFF#16 0#32 rfl rfl (by decide) (by decide) BitVec.and_zero

theorem getTarget : Statement .getTarget := rfl

theorem ack : Statement .ack := rfl

theorem arm (b : Word) : Statement (.arm b) :=
  of_fields 0xFF#8 0xFFFF#16 0#32 rfl rfl (by decide) (by decide) BitVec.and_zero

theorem harvest (n : Word) : Statement (.harvest n) :=
  of_fields 0xFF#8 0xFFFF#16 0#32 rfl rfl (by decide) (by decide) BitVec.and_zero

theorem waitFrame (t : Word) : Statement (.waitFrame t) :=
  of_fields 0xFF#8 0xFFFF#16 0#32 rfl rfl (by decide) (by decide) BitVec.and_zero

theorem diag (i : Byte) : Statement (.diag i) :=
  of_fields 0#8 0xFFFF#16 0xFFFFFFFF#32 rfl rfl BitVec.and_zero (by decide) (by decide)

theorem sregWr (id : Byte) (v : Half) : Statement (.sregWr id v) :=
  of_fields 0#8 0#16 0xFFFFFFFF#32 rfl rfl BitVec.and_zero BitVec.and_zero (by decide)

theorem sregRd (id : Byte) : Statement (.sregRd id) :=
  of_fields 0#8 0xFFFF#16 0xFFFFFFFF#32 rfl rfl BitVec.and_zero (by decide) (by decide)

theorem sregRmw (id : Byte) (s c : Half) : Statement (.sregRmw id s c) := by
  refine of_fields 0#8 0#16 0xFFFF0000#32 rfl rfl BitVec.and_zero BitVec.and_zero ?_
  apply BitVec.eq_of_getLsbD_eq
  intro i hi
  rw [BitVec.getLsbD_and, BitVec.getLsbD_setWidth]
  by_cases h : i < 16
  · have : ∀ j < 16, (0xFFFF0000#32).getLsbD j = false := by decide
    simp [this i h]
  · simp [BitVec.getLsbD_of_ge c i (by omega)]

theorem setopt (i : Byte) (x : Word) : Statement (.setopt i x) :=
  of_fields 0#8 0xFFFF#16 0#32 rfl rfl BitVec.and_zero (by decide) BitVec.and_zero

theorem configure : Statement .configure := rfl

theorem getopt (i : Byte) : Statement (.getopt i) :=
  of_fields 0#8 0xFFFF#16 0xFFFFFFFF#32 rfl rfl BitVec.and_zero (by decide) (by decide)

end Sys2Proof.Laws.EncodesRow
end

