-- ==== Sys2Proof/Laws/Run.lean ====
section
/-!
SUPPORT. Runs (70_reset_and_hazards.md R263): the end is the first state that meets the condition, and nothing follows
it; every bus transaction logs the success draw it took (42_sensor_interface.md R162).
-/
namespace Sys2Proof.Machine

/-- The run takes no step after its end. -/
theorem runFor_ended_stays {launch : State} {n : Nat} {o : Observation} (h : runFor launch n = .ended o) (k : Nat) :
    runFor launch (n + k) = .ended o := by
  induction k with
  | zero => exact h
  | succ k ih =>
    show runFor launch (n + k + 1) = _
    rw [runFor, ih]

/-- A run that has faulted stays so. -/
theorem runFor_faulted_stays {launch : State} {n : Nat} {f : Fault} (h : runFor launch n = .faulted f) (k : Nat) :
    runFor launch (n + k) = .faulted f := by
  induction k with
  | zero => exact h
  | succ k ih =>
    show runFor launch (n + k + 1) = _
    rw [runFor, ih]

theorem arrive_unfinished {launch s t : State} (h : arrive launch s = .unfinished t) :
    t = s ∧ runEnded launch s = false := by
  unfold arrive at h
  split at h
  · cases h
  · rename_i hn
    injection h with h
    exact ⟨h.symm, by simpa using hn⟩

/-- An unfinished run is at its `n`-th state, which is no end. -/
theorem runFor_unfinished {launch t : State} {n : Nat} (h : runFor launch n = .unfinished t) :
    stateAt launch n = some t ∧ runEnded launch t = false := by
  induction n generalizing t with
  | zero =>
    obtain ⟨rfl, hn⟩ := arrive_unfinished h
    exact ⟨rfl, hn⟩
  | succ n ih =>
    unfold runFor at h
    split at h
    · rename_i u hu
      split at h
      · rename_i v hv
        obtain ⟨rfl, hn⟩ := arrive_unfinished h
        exact ⟨by simp only [stateAt, (ih hu).1, hv], hn⟩
      · cases h
      · cases h
    · rename_i hr
      exact absurd h (hr t)

/-- The draw a write transaction took is what its log entry records. -/
theorem busWrite_logs_draw (id : Byte) (v : Half) (s : State) :
    ((busWrite id v s).2.busLog.drop s.busLog.length).map BusEntry.ok = [s.nextBusOk] := by
  rw [busWrite_frame]
  simp

/-- The draw a read transaction took is what its log entry records. -/
theorem busRead_logs_draw (id : Byte) (s : State) :
    ((busRead id s).2.busLog.drop s.busLog.length).map BusEntry.ok = [s.nextBusOk] := by
  unfold busRead
  dsimp only
  split <;> simp [State.logBus, State.withEnv]

end Sys2Proof.Machine
end

