-- ==== Sys2Proof/Laws/Step.lean ====
section
/-!
SUPPORT. What a step can do, said once: which agent moves, and what each agent's turn can be.
-/
namespace Sys2Proof.Machine

/-- Every step is one agent's turn, at the state in which the scheduling draw is taken. -/
theorem step_cases {s t : State} (h : step s = .next t) :
    (∃ c, s.nextAgent = .port c ∧ portStep c (s.withEnv s.env.takeAgent) = .next t) ∨
    (s.nextAgent = .engine ∧ engineStep (s.withEnv s.env.takeAgent) = .next t) ∨
    (s.nextAgent = .sequencer ∧ t = seqStep (s.withEnv s.env.takeAgent)) ∨
    (s.nextAgent = .host ∧ t = hostStep (s.withEnv s.env.takeAgent)) := by
  unfold step agentStep at h
  split at h
  · rename_i c hc
    exact .inl ⟨c, hc, h⟩
  · rename_i hc
    exact .inr (.inl ⟨hc, h⟩)
  · rename_i hc
    injection h with h
    exact .inr (.inr (.inl ⟨hc, h.symm⟩))
  · rename_i hc
    injection h with h
    exact .inr (.inr (.inr ⟨hc, h.symm⟩))

/-- The port's turn: a held wait is evaluated again, or nothing happens, or the empty slot takes the stream's next
word. -/
theorem portStep_cases {c : Ctx} {s t : State} (h : portStep c s = .next t) :
    (∃ τ, s.slot.get c = some (.waitFrame τ) ∧ exec (.waitFrame τ) (asCtx c s) = .next t) ∨
    (s.slot.get c = some .configure ∧ t = s) ∨
    (s.slot.get c = none ∧ s.stream.get c = [] ∧ t = s) ∨
    (∃ w rest, s.slot.get c = none ∧ s.stream.get c = w :: rest ∧ runWord w (issue c rest s) = .next t) := by
  unfold portStep at h
  split at h
  · rename_i τ hτ
    exact .inl ⟨τ, hτ, h⟩
  · rename_i hc
    injection h with h
    exact .inr (.inl ⟨hc, h.symm⟩)
  · rename_i hn
    split at h
    · rename_i he
      injection h with h
      exact .inr (.inr (.inl ⟨hn, he, h.symm⟩))
    · rename_i w rest he
      exact .inr (.inr (.inr ⟨w, rest, hn, he, h⟩))

/-- A command word: the meaning of its command, or ILLEGAL_COMMAND. -/
theorem runWord_cases {w : CmdWord} {s t : State} (h : runWord w s = .next t) :
    (∃ i, decode w = .ok i ∧ exec i s = .next t) ∨
    (∃ e, decode w = .error e ∧ t = respond .illegalCommand 0#32 s) := by
  unfold runWord at h
  split at h
  · rename_i i hi
    exact .inl ⟨i, hi, h⟩
  · rename_i e he
    injection h with h
    exact .inr ⟨e, he, h.symm⟩

/-- The engine's turn: START, PIXEL, COMPLETE, or no enabled step. -/
theorem engineStep_cases {s t : State} (h : engineStep s = .next t) :
    (s.startEnabled = true ∧ baseAligned s.fp = true ∧ baseInRange s.fp = true ∧
      t = { s with eng := .capturing s.fp 0 }) ∨
    (∃ base n, s.eng = .capturing base n ∧ n < framePixels ∧ t = enginePixel base n s) ∨
    (∃ base, s.eng = .capturing base framePixels ∧ t = engineComplete s) ∨
    t = s := by
  unfold engineStep at h
  split at h
  · split at h
    · rename_i hs
      unfold engineStart at h
      split at h
      · cases h
      · rename_i ha
        split at h
        · cases h
        · rename_i hr
          injection h with h
          exact .inl ⟨hs, by simpa using ha, by simpa using hr, h.symm⟩
    · injection h with h
      exact .inr (.inr (.inr h.symm))
  · rename_i base n he
    split at h
    · rename_i hn
      injection h with h
      exact .inr (.inl ⟨base, n, he, hn, h.symm⟩)
    · split at h
      · rename_i hn
        injection h with h
        subst hn
        exact .inr (.inr (.inl ⟨base, he, h.symm⟩))
      · injection h with h
        exact .inr (.inr (.inr h.symm))

/-- The engine stops the machine only with START's two faults. -/
theorem engineStep_fault {s : State} {f : Fault} (h : engineStep s = .fault f) :
    s.startEnabled = true ∧
      ((f = .bufferMisaligned s.fp ∧ baseAligned s.fp = false) ∨
       (f = .bufferOutOfRange s.fp ∧ baseAligned s.fp = true ∧ baseInRange s.fp = false)) := by
  unfold engineStep at h
  split at h
  · split at h
    · rename_i hs
      refine ⟨hs, ?_⟩
      unfold engineStart at h
      split at h
      · rename_i ha
        injection h with h
        exact .inl ⟨h.symm, by simpa using ha⟩
      · rename_i ha
        split at h
        · rename_i hr
          injection h with h
          exact .inr ⟨h.symm, by simpa using ha, by simpa using hr⟩
        · cases h
    · cases h
  · split at h
    · cases h
    · split at h <;> cases h

/-- The sequencer's turn: one transaction while Running with k < |T|, else nothing. -/
theorem seqStep_cases (s : State) :
    (∃ txns k rmw x, s.seq = .running txns k rmw ∧ txns[k]? = some x ∧ seqStep s = seqTransact txns k rmw x s) ∨
    seqStep s = s := by
  unfold seqStep
  split
  · exact .inr rfl
  · rename_i txns k rmw hs
    split
    · rename_i x hx
      exact .inl ⟨txns, k, rmw, x, hs, hx, rfl⟩
    · exact .inr rfl

/-- The host's turn: nothing, or its next action. -/
theorem hostStep_cases (s : State) :
    (s.hostActs = [] ∧ hostStep s = s) ∨
    (∃ a rest, s.hostActs = a :: rest ∧ hostStep s = hostAct a { s with hostActs := rest }) := by
  unfold hostStep
  split
  · rename_i h
    exact .inl ⟨h, rfl⟩
  · rename_i a rest h
    exact .inr ⟨a, rest, h, rfl⟩

end Sys2Proof.Machine
end

