-- ==== Sys2Proof/Tests/Slice0.lean ====
section
/-!
SUPPORT. The model's own tests: ill-formed terms, decoded words, vectors of 95_test_vectors.md, and for every statement
with hypotheses a concrete state that meets them. Expected values are the spec's (vector names in the comments) or worked
out by hand from its rules. The instance is the MT9P031-like one of 93_implementation_defined.md §2.
-/
namespace Sys2Proof.Tests
open Sys2Proof.Machine

/-! ### Helpers -/

/-- Buffer A of 95_test_vectors.md. -/
def bufA : Word := 0x00100000#32
/-- Buffer B of 95_test_vectors.md. -/
def bufB : Word := 0x00200000#32

/-- After reset, FRAME_PTR drawn as A. -/
def base : State := State.atReset Params.mt9p031Like bufA

/-- The same with FP_WRITE_ACKS = true. -/
def baseAcks : State := { base with params := { Params.mt9p031Like with fpWriteAcks := true } }

/-- With these bus outcomes to come. -/
def withBus (l : List Bool) (s : State) : State := { s with env := { s.env with busOk := l } }

/-- Armed with A, the gate open. -/
def armedA : State := { base with rx := true, pwr := true, fsm := .armed, armed := some bufA }

/-- A frame of A completed and not yet harvested. -/
def drainingA : State := { armedA with fsm := .draining, pend := true }

/-- Capturing into A, `n` pixels written. -/
def capturing (n : Nat) : State := { armedA with eng := .capturing bufA n }

/-- A CONFIGURE of MAIN is running, transaction `k` next. -/
def configuring (k : Nat) : State :=
  { base with seq := .running (transactions base.params base.opt) k 0x1F80#16, slot := ⟨some .configure, none⟩ }

/-- The next state of an outcome. -/
def nextOf : Outcome → Option State
  | .next t => some t
  | .fault _ => none
  | .refused _ => none

/-- An outcome with a next state answers it. -/
theorem next_of_isSome {o : Outcome} (h : (nextOf o).isSome = true) : ∃ t, o = .next t := by
  cases o with
  | next t => exact ⟨t, rfl⟩
  | fault _ => cases h
  | refused _ => cases h

/-- The fault of an outcome. -/
def faultOf : Outcome → Option Fault
  | .fault f => some f
  | .next _ => none
  | .refused _ => none

/-- What a command answers MAIN, last. -/
def answer (o : Outcome) : Option Response := (nextOf o).bind fun t => t.responses.main.getLast?

/-- With its next agent supplied. -/
def turnOf (a : Agent) (s : State) : State := { s with env := { s.env with agents := [a] } }

/-! ### Well-formedness: one ill-formed term for each check -/

theorem test_ill_formed_diag : (Instr.diag 14#8).wellFormed = false := by decide
theorem test_ill_formed_setopt : (Instr.setopt 17#8 0#32).wellFormed = false := by decide
theorem test_ill_formed_getopt : (Instr.getopt 17#8).wellFormed = false := by decide
theorem test_well_formed_edges :
    (Instr.diag 13#8).wellFormed = true ∧ (Instr.setopt 16#8 0#32).wellFormed = true ∧
    (Instr.getopt 16#8).wellFormed = true := by decide

/-! ### Decoding: one word for each constructor, written out from R94 and 95_test_vectors.md -/

theorem test_decode_controller :
    decode 0x0102000000000000#64 = .ok (.regRd .irqStatus) ∧
    decode 0x0203000000000005#64 = .ok (.regWr .framePtr 5#32) ∧
    decode 0x1000000000000000#64 = .ok .enable ∧
    decode 0x1100000000000000#64 = .ok .disable ∧
    decode 0x1200000000000000#64 = .ok .enableRx ∧
    decode 0x1300000000000000#64 = .ok .disableRx ∧
    decode 0x1401000000000000#64 = .ok (.setIrqEn true) ∧
    decode 0x1500000000000000#64 = .ok .frameReady ∧
    decode 0x1600000000100000#64 = .ok (.setTarget 0x00100000#32) ∧
    decode 0x1700000000000000#64 = .ok .getTarget ∧
    decode 0x1800000000000000#64 = .ok .ack := by decide

theorem test_decode_handoff :
    decode 0x2000000000100000#64 = .ok (.arm 0x00100000#32) ∧
    decode 0x2100000000200000#64 = .ok (.harvest 0x00200000#32) ∧
    decode 0x2200000000000064#64 = .ok (.waitFrame 100#32) ∧
    decode 0x230D000000000000#64 = .ok (.diag 13#8) := by decide

theorem test_decode_sensor :
    decode 0x30FF123400000000#64 = .ok (.sregWr 0xFF#8 0x1234#16) ∧
    decode 0x3107000000000000#64 = .ok (.sregRd 0x07#8) ∧
    decode 0x32200F00000000F0#64 = .ok (.sregRmw 0x20#8 0x0F00#16 0x00F0#16) := by decide

theorem test_decode_sequencer :
    decode 0x4010000000000040#64 = .ok (.setopt 16#8 0x40#32) ∧
    decode 0x4100000000000000#64 = .ok .configure ∧
    decode 0x420C000000000000#64 = .ok (.getopt 12#8) := by decide

/-- The illegal words of 95_test_vectors.md §2.1. -/
theorem test_decode_illegal :
    decode 0x1000000000000001#64 = .error (.mustBeZero 0x10#8) ∧
    decode 0x0207000000000000#64 = .error (.mustBeZero 0x02#8) ∧
    decode 0x1402000000000000#64 = .error (.mustBeZero 0x14#8) ∧
    decode 0x2000000100100000#64 = .error (.mustBeZero 0x20#8) ∧
    decode 0x230E000000000000#64 = .error (.diagItem 0x0E#8) ∧
    decode 0x3207000200010000#64 = .error (.mustBeZero 0x32#8) ∧
    decode 0x4011000000000000#64 = .error (.optIndex 0x11#8) ∧
    decode 0x4100000000000001#64 = .error (.mustBeZero 0x41#8) ∧
    decode 0x0000000000000000#64 = .error (.unassignedOpcode 0#8) ∧
    decode 0xFFFFFFFFFFFFFFFF#64 = .error (.unassignedOpcode 0xFF#8) := by decide

/-- The words of the listing in 30_encoding.md R91 and 95_test_vectors.md P1, encoded. -/
theorem test_encode_words :
    encode (.arm 0x00100000#32) = 0x2000000000100000#64 ∧
    encode (.setopt 15#8 0x123#32) = 0x400F000000000123#64 ∧
    encode (.sregWr 0x09#8 0x0400#16) = 0x3009040000000000#64 := by decide

theorem test_decodeTableWord : decodeTableWord 64 0x1000000000000000 = some .enable := by decide

/-- The opcode map has 21 rows (R94). -/
theorem test_opcode_table : opcodeTable.length = 21 := by decide

/-! ### Pseudo-instructions and assembly (R98, R99) -/

/-- P2's first MAIN lines and the IRQ line. -/
theorem test_assemble_p2 :
    assemble Params.mt9p031Like
      [⟨some .main, .irqOn, []⟩, ⟨none, .arm, [.num 0x00100000]⟩, ⟨some .irq, .rearm, [.num 0x00200000]⟩,
       ⟨none, .regWr, [.reg .irqStatus, .num 1]⟩] =
      some ⟨[0x1401000000000000#64, 0x2000000000100000#64, 0x0202000000000001#64], [0x2100000000200000#64]⟩ := by
  decide

/-- SET_BIN_SKIP ROW, 3, 3 and an SREG_RMW with a named identifier. -/
theorem test_assemble_p1 :
    assemble Params.mt9p031Like
      [⟨none, .setBinSkipRow, [.num 3, .num 3]⟩, ⟨none, .sregRmw, [.sensor .outputControl, .num 2, .num 0]⟩] =
      some ⟨[0x4003000000000003#64, 0x4004000000000003#64, 0x3207000200000000#64], []⟩ := by
  decide

/-! ### Controller register commands (95_test_vectors.md §2.2) -/

/-- CR1: reserved bits ignored. -/
theorem test_cr1 : (nextOf (exec (.regWr .ctrl 0xFFFFFFFF#32) base)).map (fun t => (t.rx, t.pwr)) = some (true, true) := by
  decide

/-- CR2: the defined bits of a CTRL read, whatever the draw is. -/
theorem test_cr2 :
    answer (exec (.regRd .ctrl)
      { armedA with env := { armedA.env with words := [0xABCD1230#32] } }) = some ⟨.ok, 0xABCD1233#32⟩ := by decide

/-- CR3 and CR4: write-1-to-clear. -/
theorem test_cr3_cr4 :
    (nextOf (exec (.regWr .irqStatus 0#32) drainingA)).map State.pend = some true ∧
    (nextOf (exec (.regWr .irqStatus 1#32) drainingA)).map State.pend = some false := by decide

/-- CR5 and CR6: SET_TARGET with and without the coupling. -/
theorem test_cr5_cr6 :
    (nextOf (exec (.setTarget bufB) { baseAcks with pend := true })).map (fun t => (t.fp, t.pend)) = some (bufB, false) ∧
    (nextOf (exec (.setTarget bufB) { base with pend := true })).map (fun t => (t.fp, t.pend)) = some (bufB, true) := by
  decide

/-- CR7 and CR8: a CTRL write that closes the gate aborts, one that leaves it open does not. -/
theorem test_cr7_cr8 :
    (nextOf (exec (.regWr .ctrl 2#32) (capturing 100))).map (fun t => (t.rx, t.pwr, t.eng, t.pend)) =
      some (false, true, .waiting, false) ∧
    (nextOf (exec (.regWr .ctrl 3#32) (capturing 100))).map State.eng = some (.capturing bufA 100) := by decide

/-- CR9 and CR10. -/
theorem test_cr9_cr10 :
    (nextOf (exec .enableRx base)).map (fun t => (t.rx, t.pwr)) = some (true, false) ∧
    (nextOf (exec .disableRx armedA)).map (fun t => (t.rx, t.pwr)) = some (false, true) := by decide

/-- CR11 and CR12: the line follows the mask at once. -/
theorem test_cr11_cr12 :
    (nextOf (exec (.setIrqEn true) drainingA)).map State.irq = some true ∧
    (nextOf (exec (.setIrqEn false) { drainingA with ie := true })).map (fun t => (t.irq, t.pend)) =
      some (false, true) := by decide

/-- CR13, CR14 and CR15. -/
theorem test_cr13_cr15 :
    answer (exec .frameReady drainingA) = some ⟨.ok, 1#32⟩ ∧ answer (exec .frameReady base) = some ⟨.ok, 0#32⟩ ∧
    answer (exec .getTarget armedA) = some ⟨.ok, 0x00100000#32⟩ := by decide

/-- CR16. -/
theorem test_cr16 :
    (nextOf (exec .ack { drainingA with ie := true })).map (fun t => (t.pend, t.irq, t.fsm)) =
      some (false, false, .draining) := by decide

/-- CR17 and CR19. -/
theorem test_cr17_cr19 :
    (nextOf (exec .disable (capturing 7))).map (fun t => (t.rx, t.pwr, t.eng, t.fsm, t.armed)) =
      some (false, false, .waiting, .idle, none) ∧
    (nextOf (exec .enable base)).map (fun t => (t.rx, t.pwr, t.fsm)) = some (true, true, .idle) := by decide

/-- CR18: a raw FP write keeps the session. -/
theorem test_cr18 :
    (nextOf (exec (.regWr .framePtr bufB) armedA)).map (fun t => (t.fp, t.armed)) = some (bufB, some bufA) := by decide

/-! ### Handoff FSM and engine (95_test_vectors.md §2.3) -/

/-- H1. -/
theorem test_h1 :
    (nextOf (exec (.arm bufA) base)).map (fun t => (t.rx, t.pwr, t.fp, t.fsm, t.armed)) =
      some (true, false, bufA, .armed, some bufA) := by decide

/-- H4 and H5: ARM refused. -/
theorem test_h4_h5 :
    answer (exec (.arm bufB) drainingA) = some ⟨.protocolViolation, 0#32⟩ ∧
    answer (exec (.arm bufA) { armedA with ready := true, last := some bufA }) = some ⟨.protocolViolation, 0#32⟩ := by
  decide

/-- H10 and H11: HARVEST of FP refused, of B accepted. -/
theorem test_h10_h11 :
    answer (exec (.harvest bufA) drainingA) = some ⟨.protocolViolation, 0#32⟩ ∧
    (nextOf (exec (.harvest bufB) drainingA)).map
      (fun t => ((t.fp, t.pend, t.rx), (t.last, t.ready), (t.armed, t.fsm))) =
      some ((bufB, false, true), (some bufA, true), (some bufB, .armed)) := by decide

/-- H12: the answer is FP, and the earlier identity is overwritten. -/
theorem test_h12 :
    answer (exec (.harvest bufA) { drainingA with fp := bufB, ready := true, last := some bufA }) =
      some ⟨.ok, 0x00200000#32⟩ := by decide

/-- H13, H14 and H15. -/
theorem test_h13_h15 :
    answer (exec (.waitFrame 0#32) { armedA with ready := true, last := some bufA }) = some ⟨.ok, 0x00100000#32⟩ ∧
    answer (exec (.waitFrame 0#32) base) = some ⟨.cancelled, 0#32⟩ ∧
    answer (exec (.waitFrame 0#32) { base with ready := true, last := some bufB }) = some ⟨.ok, 0x00200000#32⟩ := by
  decide

/-- H16 and H17: holding, and a drawn timeout. -/
theorem test_h16_h17 :
    (nextOf (exec (.waitFrame 0#32) armedA)).map (fun t => t.slot.main) = some (some (.waitFrame 0#32)) ∧
    answer (exec (.waitFrame 5#32) { armedA with env := { armedA.env with timeouts := [true] } }) =
      some ⟨.timeout, 0#32⟩ := by decide

/-- H18 and P4's DIAG 13. -/
theorem test_diag :
    answer (exec (.diag 5#8) armedA) = some ⟨.ok, 0x00100000#32⟩ ∧
    answer (exec (.diag 13#8) { base with result := ⟨2#8, 0x1E#8⟩ }) = some ⟨.ok, 0x1E02#32⟩ := by decide

/-- E1, E2 and E3. -/
theorem test_e1_e3 :
    (nextOf (engineStep armedA)).map State.eng = some (.capturing bufA 0) ∧
    (nextOf (engineStep { armedA with pend := true })).map State.eng = some .waiting ∧
    (nextOf (engineStep { armedA with pwr := false })).map State.eng = some .waiting := by decide

/-- E4 and E5: pixel 321 in both byte orders. -/
theorem test_e4_e5 :
    (nextOf (engineStep { capturing 321 with env := { base.env with pixels := [0xF800#16] } })).map
      (fun t => (t.mem, t.eng)) = some ([(0x00100282, 0x00#8), (0x00100283, 0xF8#8)], .capturing bufA 322) ∧
    (nextOf (engineStep { capturing 321 with env := { base.env with pixels := [0xF800#16] }, params :=
      { base.params with pixelEndian := .big } })).map State.mem =
        some [(0x00100282, 0xF8#8), (0x00100283, 0x00#8)] := by decide

/-- E6: the last pixel. -/
theorem test_e6 :
    (nextOf (engineStep { capturing 76799 with env := { base.env with pixels := [0x1234#16] } })).map
      (fun t => (t.mem, t.eng)) = some ([(0x001257FE, 0x34#8), (0x001257FF, 0x12#8)], .capturing bufA 76800) := by
  decide

/-- E7 and E8. -/
theorem test_e7_e8 :
    (nextOf (engineStep (capturing 76800))).map (fun t => (t.pend, t.eng, t.fsm)) = some (true, .waiting, .draining) ∧
    (nextOf (engineStep { capturing 76800 with fsm := .idle })).map (fun t => (t.pend, t.fsm)) = some (true, .idle) := by
  decide

/-- E9, E10 and E11. -/
theorem test_e9_e11 :
    faultOf (engineStep { armedA with fp := 0x00100001#32 }) = some (.bufferMisaligned 0x00100001#32) ∧
    faultOf (engineStep { armedA with fp := 0xFFFDA800#32 }) = none ∧
    faultOf (engineStep { armedA with fp := 0xFFFDA802#32 }) = some (.bufferOutOfRange 0xFFFDA802#32) := by decide

/-- W9: the RGB565 fields and their 24-bit form of 0xDEAD. -/
theorem test_w9 :
    (pixelRed 0xDEAD#16, pixelGreen 0xDEAD#16, pixelBlue 0xDEAD#16) = (27#5, 53#6, 13#5) ∧
    pixelTo24 0xDEAD#16 = (216#8, 212#8, 104#8) := by decide

/-! ### Sensor interface (95_test_vectors.md §2.4) -/

/-- S1 and W1: the value lands, most significant byte first on the bus. -/
theorem test_s1 :
    (nextOf (exec (.sregWr 0x09#8 0x0400#16) (withBus [true] base))).map
      (fun t => (t.readSr 0x09#8, t.busLog.map BusEntry.wire)) = some (0x0400#16, [[0x09#8, 0x04#8, 0x00#8]]) := by
  decide

/-- S2: a failed write. -/
theorem test_s2 :
    answer (exec (.sregWr 0x09#8 0x0400#16) (withBus [false] base)) = some ⟨.busTransferError, 0x09#32⟩ := by decide

/-- S3 and S12. -/
theorem test_s3_s12 :
    answer (exec (.sregRd 0x1E#8) (withBus [true] base)) = some ⟨.ok, 0x4006#32⟩ ∧
    answer (exec (.sregRd 0x07#8) (configuring 3)) = some ⟨.protocolViolation, 0#32⟩ := by decide

/-- S5 and S6: clear, then set. -/
theorem test_s5_s6 :
    answer (exec (.sregRmw 0x20#8 0x0F00#16 0x00F0#16) (withBus [true, true] (base.writeSr 0x20#8 0x00FF#16))) =
      some ⟨.ok, 0x0F0F#32⟩ ∧
    answer (exec (.sregRmw 0x20#8 1#16 1#16) (withBus [true, true] (base.writeSr 0x20#8 0#16))) =
      some ⟨.ok, 0x0001#32⟩ := by decide

/-- S8 and S10: a failed read makes no write; refused outside Idle. -/
theorem test_s8_s10 :
    (nextOf (exec (.sregRmw 0x07#8 2#16 0#16) (withBus [false] base))).map
      (fun t => (t.busLog.length, t.responses.main)) = some (1, [⟨.configurationError, 0x07#32⟩]) ∧
    answer (exec (.sregRmw 0x07#8 2#16 0#16) armedA) = some ⟨.protocolViolation, 0#32⟩ := by decide

/-! ### Sequencer (95_test_vectors.md §2.5) -/

/-- Q1, Q2, Q6 and Q7. -/
theorem test_setopt :
    (nextOf (exec (.setopt 3#8 3#32) base)).map (fun t => t.opt.rowBin) = some 3#2 ∧
    answer (exec (.setopt 3#8 4#32) base) = some ⟨.protocolViolation, 0#32⟩ ∧
    answer (exec (.setopt 0#8 0x10000#32) base) = some ⟨.protocolViolation, 0#32⟩ ∧
    (nextOf (exec (.setopt 12#8 15#32) base)).map (fun t => t.opt.tpPattern) = some 15#4 := by decide

/-- Q10 and Q11. -/
theorem test_options_while_running :
    answer (exec (.setopt 3#8 1#32) (configuring 0)) = some ⟨.protocolViolation, 0#32⟩ ∧
    answer (exec (.getopt 3#8) (configuring 0)) = some ⟨.ok, 0#32⟩ := by decide

/-- Q8, and R177 started. -/
theorem test_configure :
    answer (exec .configure { base with opt := { base.opt with tpEnable := true, tpPattern := 15#4 } }) =
      some ⟨.protocolViolation, 0#32⟩ ∧
    (nextOf (exec .configure base)).map (fun t => (t.seq.isRunning, t.slot.main)) =
      some (true, some .configure) := by decide

/-- P1's options. -/
def optP1 : Options :=
  { Options.reset with rowBin := 3#2, rowSkip := 3#3, pixclkInv := true, tpEnable := true, tpPattern := 8#4 }

/-- P1's rows 5, 10 and 12 of the transaction list, in the instance of 93_implementation_defined.md. -/
theorem test_transactions_p1 :
    (transactions Params.mt9p031Like optP1)[4]? = some (.w 0x22#8 0x0033#16) ∧
    rmwValue 0x0040#16 0x8000#16 0xC000#16 = 0x8040#16 ∧
    (transactions Params.mt9p031Like optP1)[11]? = some (.w 0xA0#8 0x0041#16) := by decide

/-- P1's last transaction: the chip-enable write, and the response. -/
theorem test_sequencer_last :
    let t := seqStep (withBus [true] (configuring 12))
    (t.readSr 0x07#8, t.seq, t.result, t.slot.main, t.responses.main) =
      (0x1F82#16, .sIdle, ⟨0#8, 0#8⟩, none, [⟨.ok, 0#32⟩]) := by decide

/-- P4 run 1, transaction 7: a failing read half. -/
theorem test_sequencer_failure :
    let t := seqStep (withBus [false] (configuring 6))
    (t.seq, t.result, t.responses.main) = (.sIdle, ⟨2#8, 0x1E#8⟩, [⟨.configurationError, 0x1E#32⟩]) := by decide

/-! ### Reset, and the first instruction after it -/

/-- X6: reset during a held WAIT_FRAME. -/
theorem test_x6 :
    let t := hostStep { armedA with slot := ⟨some (.waitFrame 0#32), none⟩, hostActs := [.reset] }
    (t.slot, t.responses.main, t.fsm, t.rx) = (⟨none, none⟩, [], .idle, false) := by decide

/-- The host's sentinel fill and read back (W5's bytes, little endian). -/
theorem test_host_memory :
    let t := hostStep { base with hostActs := [.memWrite bufA [0xAD#8, 0xDE#8]] }
    (t.mem, t.mem.readBytes bufA 2) =
      ([(0x00100000, 0xAD#8), (0x00100001, 0xDE#8)], [0xAD#8, 0xDE#8]) := by decide

/-- ENABLE placed with `withFetchWord` is the very next step after reset. -/
theorem test_first_instruction :
    (nextOf (step (State.reset.withFetchWord 64 0x1000000000000000))).map (fun t => (t.rx, t.pwr)) =
      some (true, true) := by decide

/-! ### The end of a run (R263) -/

/-- RX in the observation of an ended run. -/
def endedRx : RunResult → Option Bool
  | .ended o => some o.rx
  | .faulted _ => none
  | .refused _ => none
  | .unfinished _ => none

/-- A launch with ENABLE in MAIN's stream. -/
def launchEnable (agents : List Agent) (acts : List HostAct) : State :=
  { base with stream := ⟨[0x1000000000000000#64], []⟩, hostActs := acts, env := { base.env with agents := agents } }

/-- The run ends at the first state in which ENABLE is answered: a later reset is no part of it. -/
theorem test_run_ends_first :
    endedRx (runFor (launchEnable [.port .main, .host] [.reset]) 0) = none ∧
    endedRx (runFor (launchEnable [.port .main, .host] [.reset]) 1) = some true ∧
    endedRx (runFor (launchEnable [.port .main, .host] [.reset]) 2) = some true := by decide

/-- A held command that a reset discards is not answered, so the run has not ended. -/
theorem test_run_reset_discards :
    endedRx (runFor (turnOf .host { armedA with slot := ⟨some (.waitFrame 0#32), none⟩, hostActs := [.reset] }) 1) =
      none := by decide

/-! ### Every statement with hypotheses has a state that meets them -/

theorem inv_base : StateInv base :=
  ⟨Params.mt9p031Like_wf, Memory.wf_nil, trivial, by simp [SessionInv, base, State.atReset],
    by intro c; cases c <;> simp [base, State.atReset], by simp [ResultInv, base, State.atReset],
    by unfold OptionInv; decide⟩

theorem inv_capturing (n : Nat) (h : n ≤ framePixels) : StateInv (capturing n) :=
  ⟨Params.mt9p031Like_wf, Memory.wf_nil, ⟨h, by decide, by decide, rfl, rfl, rfl⟩,
    by simp [SessionInv, capturing, armedA, base, State.atReset],
    by intro c; cases c <;> simp [capturing, armedA, base, State.atReset],
    by simp [ResultInv, capturing, armedA, base, State.atReset],
    by show OptionInv base; unfold OptionInv; decide⟩

theorem witness_EncodedCommandsDecodeBack : (Instr.diag 13#8).WellFormed ∧ (Instr.setopt 16#8 0#32).WellFormed := by
  decide

theorem witness_DecodedWordsEncodeBack : decode 0x230D000000000000#64 = .ok (.diag 13#8) := by decide

theorem witness_AtMostOneRowMatches :
    ∃ r ∈ opcodeTable, r.matchesWord 0x230D000000000000#64 = true := by decide

theorem witness_IllegalWords :
    decode 0x0000000000000000#64 = .error (.unassignedOpcode 0#8) ∧ CmdWord.opc 0x230E000000000000#64 = 0x23#8 ∧
    13#8 < CmdWord.f8 0x230E000000000000#64 ∧ CmdWord.opc 0x4211000000000000#64 = 0x42#8 ∧
    16#8 < CmdWord.f8 0x4211000000000000#64 := by decide

theorem witness_StepRunsTheDecodedCommand :
    let s := turnOf (.port .irq) { base with stream := ⟨[], [0x1800000000000000#64]⟩ }
    s.nextAgent = .port .irq ∧ s.slot.get .irq = none ∧ s.stream.get .irq = 0x1800000000000000#64 :: [] ∧
    decode 0x1800000000000000#64 = .ok .ack := by decide

theorem witness_IllegalWordStep :
    let s := turnOf (.port .main) { base with stream := ⟨[0x0300000000000000#64], []⟩ }
    s.nextAgent = .port .main ∧ s.slot.get .main = none ∧ s.stream.get .main = 0x0300000000000000#64 :: [] ∧
    decode 0x0300000000000000#64 = .error (.unassignedOpcode 0x03#8) := by decide

theorem witness_IdleContext :
    (turnOf (.port .irq) base).nextAgent = .port .irq ∧ base.slot.get .irq = none ∧ base.stream.get .irq = [] := by
  decide

theorem witness_HeldCommands :
    (turnOf (.port .main) { base with slot := ⟨some (.waitFrame 5#32), none⟩ }).nextAgent = .port .main ∧
    (turnOf (.port .main) (configuring 0)).slot.get .main = some .configure := by decide

/-- A sequencer, a host and an engine with nothing to do, and a host with an action. -/
theorem witness_IdleAgents :
    (turnOf .sequencer base).seq = .sIdle ∧ (turnOf .host base).hostActs = [] ∧
    (transactions base.params base.opt).length ≤ 13 ∧
    (turnOf .sequencer (configuring 13)).seq = .running (transactions base.params base.opt) 13 0x1F80#16 ∧
    (turnOf .engine (capturing 76801)).eng = .capturing bufA 76801 ∧
    (turnOf .host { base with hostActs := [.memRead bufA 1] }).hostActs = .memRead bufA 1 :: [] := by decide

theorem witness_OtherAgents :
    (turnOf .engine base).nextAgent = .engine ∧ (turnOf .sequencer base).nextAgent = .sequencer ∧
    (turnOf .host base).nextAgent = .host := by decide

theorem witness_ResetEvent : ({ capturing 5 with hostActs := [.reset] } : State).hostActs = .reset :: [] := rfl

theorem witness_EveryStepKeepsTheInvariant :
    StateInv (turnOf .engine (capturing 5)) ∧ ∃ t, step (turnOf .engine (capturing 5)) = .next t :=
  ⟨inv_capturing 5 (by decide), _, rfl⟩

theorem witness_FramePixelsAreLoggedInOrder :
    CaptureLogInv (turnOf .engine { capturing 1 with memLog := [⟨bufA, [0#8, 0#8]⟩] }) ∧
    ∃ t, step (turnOf .engine { capturing 1 with memLog := [⟨bufA, [0#8, 0#8]⟩] }) = .next t :=
  ⟨⟨[], rfl⟩, _, rfl⟩

theorem witness_ParametersNeverChange : ∃ t, step (turnOf .host base) = .next t := ⟨_, rfl⟩

theorem witness_PendIsSetOnlyByComplete :
    ∃ t, step (turnOf .engine (capturing 76800)) = .next t ∧ (turnOf .engine (capturing 76800)).pend = false ∧
      t.pend = true := ⟨_, rfl, rfl, rfl⟩

theorem witness_PendIsCleared :
    (∃ t, exec .ack drainingA = .next t ∧ drainingA.pend = true ∧ t.pend = false) ∧
    (∃ t, exec (.setTarget bufB) { baseAcks with pend := true } = .next t ∧ t.pend = false ∧
      ({ baseAcks with pend := true } : State).params.fpWriteAcks = true) ∧
    (∃ t, exec (.regWr .irqStatus 1#32) drainingA = .next t ∧ (1#32 : Word).getLsbD 0 = true ∧ t.pend = false) ∧
    (∃ t, engineStep { drainingA with eng := .waiting } = .next t ∧ t.pend = true) :=
  ⟨⟨_, rfl, rfl, rfl⟩, ⟨_, rfl, rfl, rfl⟩, ⟨_, rfl, by decide, by decide⟩, ⟨_, rfl, rfl⟩⟩

theorem witness_FsmMoves :
    (∃ t, exec (.arm bufA) base = .next t ∧ t.fsm = .armed) ∧
    (∃ t, exec (.harvest bufB) drainingA = .next t ∧ t.fsm = .armed) ∧
    (∃ t, engineStep (capturing 76800) = .next t ∧ t.fsm = .draining) :=
  ⟨⟨_, rfl, by decide⟩, ⟨_, rfl, by decide⟩, ⟨_, rfl, rfl⟩⟩

theorem witness_OnlyPixelStepsWrite :
    (∃ t, exec .enable base = .next t) ∧
    ∃ t, engineStep { capturing 1 with env := { base.env with pixels := [1#16] } } = .next t ∧ t.mem ≠ base.mem :=
  ⟨⟨_, rfl⟩, _, rfl, by decide⟩

theorem witness_HostMemory :
    [0xAD#8, 0xDE#8].length ≤ 2 ^ 32 ∧ [0xAD#8, 0xDE#8][1]? = some 0xDE#8 ∧
    ({ base with mem := [(0x00100001, 0xDE#8)] } : State).mem.read (bufA + BitVec.ofNat 32 1).toNat = some 0xDE#8 := by
  decide

theorem witness_OnlyBusCommands :
    (∃ t, exec .ack base = .next t) ∧ (∀ id v, Instr.ack ≠ .sregWr id v) ∧ (∀ id a b, Instr.ack ≠ .sregRmw id a b) ∧
    (∀ id, Instr.ack ≠ .sregRd id) ∧ ∃ t, engineStep armedA = .next t :=
  ⟨⟨_, rfl⟩, nofun, nofun, nofun, next_of_isSome (by decide)⟩

theorem witness_OnlyConfigureStarts :
    ∃ t, exec .configure base = .next t ∧ base.seq.isRunning = false ∧ t.seq.isRunning = true :=
  ⟨_, rfl, rfl, by decide⟩

theorem witness_ProtocolViolation :
    ∃ t, exec (.arm bufB) drainingA = .next t ∧
      t.responses.get drainingA.ctx = drainingA.responses.get drainingA.ctx ++ [⟨.protocolViolation, 0#32⟩] :=
  ⟨_, rfl, by decide⟩

theorem witness_CommandsTouchOnlyTheirOwn : ∃ t, exec .ack drainingA = .next t ∧ Ctx.irq ≠ drainingA.ctx :=
  ⟨_, rfl, by decide⟩

theorem witness_ControllerCommands :
    (∃ t, exec .enableRx base = .next t) ∧ (CmdWord.opc (encode .enableRx)).toNat < 0x20 ∧ Instr.enableRx ≠ .disable :=
  ⟨⟨_, rfl⟩, by decide, by decide⟩

theorem witness_Arm :
    (base.seq = .sIdle ∧ base.fsm ≠ .draining ∧ ¬ (base.ready = true ∧ base.last = some bufA)) ∧
    (configuring 0).seq ≠ .sIdle ∧ drainingA.fsm = .draining ∧
    (({ armedA with ready := true, last := some bufA } : State).ready = true ∧
      ({ armedA with ready := true, last := some bufA } : State).last = some bufA) := by decide

/-- Both with no ready frame, and with one in a third buffer. -/
theorem witness_DoubleArm :
    (base.seq = .sIdle ∧ base.fsm ≠ .draining ∧ ¬ (base.ready = true ∧ base.last = some bufA)) ∧
    (let s : State := { base with ready := true, last := some 0x00300000#32 }
     ¬ (s.ready = true ∧ s.last = some bufA) ∧ ¬ (s.ready = true ∧ s.last = some bufB)) ∧
    ∃ t, exec (.arm bufA) { base with ready := true, last := some 0x00300000#32 } = .next t :=
  ⟨by decide, by decide, _, rfl⟩

theorem witness_Harvest :
    (drainingA.fsm = .draining ∧ bufB ≠ drainingA.fp) ∧ base.fsm ≠ .draining ∧ bufA = drainingA.fp := by decide

theorem witness_WaitFrame :
    (({ base with ready := true, last := some bufB } : State).ready = true ∧
      ({ base with ready := true, last := some bufB } : State).last = some bufB) ∧
    (base.ready = false ∧ base.fsm = .idle) ∧ (armedA.ready = false ∧ armedA.fsm ≠ .idle) ∧
    (5#32 : Word) ≠ 0#32 ∧
    ({ armedA with env := { armedA.env with timeouts := [true] } } : State).nextTimeout = true ∧
    ({ armedA with env := { armedA.env with timeouts := [false] } } : State).nextTimeout = false ∧
    ({ armedA with slot := ⟨none, some (.waitFrame 5#32)⟩ } : State).slot.get .irq = some (.waitFrame 5#32) := by decide

theorem witness_Start :
    armedA.eng = .waiting ∧ (armedA.pwr = true ∧ armedA.rx = true ∧ armedA.pend = false) ∧
    ¬ (base.pwr = true ∧ base.rx = true ∧ base.pend = false) ∧
    ((0x00100001#32 : Word).toNat % 2 ≠ 0 ∧ (0x00100001#32 : Word).toNat + 153600 ≤ 2 ^ 32) ∧
    ((0xFFFFFFFF#32 : Word).toNat % 2 ≠ 0 ∧ (0xFFFFFFFF#32 : Word).toNat + 153600 > 2 ^ 32) ∧
    ((0xFFFDA802#32 : Word).toNat % 2 = 0 ∧ (0xFFFDA802#32 : Word).toNat + 153600 > 2 ^ 32) ∧
    ((0xFFFDA800#32 : Word).toNat % 2 = 0 ∧ (0xFFFDA800#32 : Word).toNat + 153600 ≤ 2 ^ 32) := by decide

theorem witness_Pixel :
    (capturing 76799).eng = .capturing bufA 76799 ∧ 76799 < 76800 ∧ bufA.toNat + 153600 ≤ 2 ^ 32 := by decide

theorem witness_Complete : (capturing 76800).eng = .capturing bufA 76800 := rfl

theorem witness_EngineDelivers :
    armedA.startEnabled = true ∧ baseAligned armedA.fp = true ∧ baseInRange armedA.fp = true := by decide

theorem witness_HarvestNames :
    (let s : State := { base with pwr := true, ready := true, last := some bufB }
     s.pwr = true ∧ s.seq = .sIdle ∧ s.fsm ≠ .draining ∧ ¬ (s.ready = true ∧ s.last = some bufA)) ∧
    baseAligned bufA = true ∧ baseInRange bufA = true ∧ bufB ≠ bufA ∧
    ∃ t, exec (.arm bufA) { base with pwr := true, ready := true, last := some bufB } = .next t :=
  ⟨by decide, by decide, by decide, by decide, _, rfl⟩

theorem witness_Abort :
    StateInv (capturing 5) ∧ (capturing 5).eng.isCapturing = true ∧ ∃ t, exec .disableRx (capturing 5) = .next t ∧
      t.eng = .waiting := ⟨inv_capturing 5 (by decide), rfl, _, rfl, by decide⟩

theorem witness_Sreg :
    (configuring 0).seq ≠ .sIdle ∧ base.seq = .sIdle ∧ base.fsm = .idle ∧ (withBus [true] base).nextBusOk = true ∧
    (withBus [false] base).nextBusOk = false ∧ base.params.readModel = .stored ∧
    ({ base.params with readModel := .oracle } : Params).readModel = .oracle ∧
    (withBus [true, true] base).env.busOk = true :: true :: [] := by decide

/-- The state SREG_RMW's read leaves in the Stored and in the Oracle model, the write's outcome still to come. -/
theorem witness_SregRmw :
    (let s := withBus [true, true] base
     ({ s with busLog := s.busLog ++ [⟨.read, 0x07#8, 0x1F82#16, true⟩], env := s.env.takeBusOk } : State).nextBusOk =
       true ∧ s.sr[0x07] = 0x1F82#16) ∧
    (let s := withBus [true, false] { base with params := { base.params with readModel := .oracle } }
     ({ s with env := s.env.takeBusOk.takeSensorVal } : State).nextBusOk = false ∧ s.params.readModel = .oracle) := by
  decide

/-- Both draws of an SREG_RMW stand in the log entries its one step adds (R162, `BusOk`). -/
theorem test_rmw_logs_both_draws :
    (nextOf (exec (.sregRmw 0x07#8 2#16 0#16) (withBus [true, false] base))).map (fun t => t.busLog.map BusEntry.ok) =
      some [true, false] := by decide

theorem witness_Setopt :
    base.params.wf = true ∧ optWidth base.params 10#8 = some 7 ∧ (configuring 0).seq ≠ .sIdle ∧
    2 ^ 7 ≤ (128#32 : Word).toNat ∧ (127#32 : Word).toNat < 2 ^ 7 := by decide

theorem witness_Configure :
    ((configuring 0).seq ≠ .sIdle ∧ armedA.fsm ≠ .idle) ∧ (base.seq = .sIdle ∧ base.fsm = .idle) ∧
    ¬ (base.opt.tpEnable = true ∧ 8 < base.opt.tpPattern.toNat) ∧
    (({ base.opt with tpEnable := true, tpPattern := 9#4 } : Options).tpEnable = true ∧
      8 < ({ base.opt with tpEnable := true, tpPattern := 9#4 } : Options).tpPattern.toNat) := by decide

theorem witness_SequencerTransaction :
    (∃ txns, ∀ k, (configuring k).seq = .running txns k 0x1F80#16 ∧ txns[0]? = some (.w 0x03#8 0#16) ∧
      txns[6]? = some (.rr 0x1E#8) ∧ txns[12]? = some (.rw 0x07#8 2#16 0#16)) ∧
    (∀ k, HoldsConfigure (configuring k) .main) ∧ (withBus [true] (configuring 0)).nextBusOk = true ∧
    (withBus [false] (configuring 6)).nextBusOk = false :=
  ⟨⟨_, fun _ => ⟨rfl, by decide, by decide, by decide⟩⟩,
   fun _ => ⟨rfl, fun d hd => by cases d <;> first | exact absurd rfl hd | simp [configuring]⟩, rfl, rfl⟩

/-- The same with the Oracle read model, at a read half. -/
theorem witness_SequencerOracle :
    let s : State := { withBus [true] (configuring 6) with params := { base.params with readModel := .oracle } }
    s.seq = .running (transactions base.params base.opt) 6 0x1F80#16 ∧ HoldsConfigure s .main ∧
    (transactions base.params base.opt)[6]? = some (.rr 0x1E#8) ∧ s.nextBusOk = true ∧
    s.params.readModel = .oracle :=
  ⟨rfl, ⟨rfl, fun d hd => by cases d <;> first | exact absurd rfl hd | simp [withBus, configuring]⟩, by decide, rfl, rfl⟩

theorem witness_TransactionList :
    Options.reset.tpEnable = false ∧ ({ Options.reset with tpEnable := true } : Options).tpEnable = true := by decide

theorem witness_SuccessfulConfigure :
    StateInv (withBus (List.replicate 13 true) base) ∧ base.params.readModel = .stored ∧ base.seq = .sIdle ∧
    base.fsm = .idle ∧ (base.opt.tpEnable = true → base.opt.tpPattern.toNat ≤ 8) ∧
    (withBus (List.replicate 13 true) base).env.busOk.take (transactions base.params base.opt).length =
      List.replicate (transactions base.params base.opt).length true :=
  ⟨inv_base, rfl, rfl, rfl, by decide, by decide⟩

theorem witness_FirstFailure :
    StateInv (withBus [true, true, true, true, true, true, false] base) ∧
    (transactions base.params base.opt)[6]? = some (.rr 0x1E#8) ∧
    (withBus [true, true, true, true, true, true, false] base).env.busOk.take (6 + 1) =
      List.replicate 6 true ++ [false] := ⟨inv_base, by decide, by decide⟩

theorem witness_SequencerEnds :
    (configuring 12).seq = .running (transactions base.params base.opt) 12 0x1F80#16 ∧
    12 < (transactions base.params base.opt).length := ⟨rfl, by decide⟩

end Sys2Proof.Tests
end

/-!
PROOFS. 00_scope.md: what a step leaves alone around the block. No command and no sequencer step writes the parameters,
frame memory, the memory log or the host's side; the engine writes memory by PIXEL only.
-/
namespace Sys2Proof.Machine

/-! ### What surrounds the block's registers -/

/-- The part of the state that no command and no sequencer transaction writes: the parameters (R21), frame memory and
its log (R71, R152), the issuing context, and the host's inputs and reads (R233). -/
structure Surroundings where
  params : Params
  mem : Memory
  memLog : List MemEntry
  ctx : Ctx
  stream : PerCtx (List CmdWord)
  hostActs : List HostAct
  hostReads : List HostRead

/-- The surroundings a state holds. -/
def State.surroundings (s : State) : Surroundings :=
  ⟨s.params, s.mem, s.memLog, s.ctx, s.stream, s.hostActs, s.hostReads⟩

/-! ### The shared operations -/

@[simp] theorem State.withEnv_surroundings (s : State) (e : Env) : (s.withEnv e).surroundings = s.surroundings := rfl

@[simp] theorem respondTo_surroundings (c : Ctx) (code : Code) (data : Word) (s : State) :
    (respondTo c code data s).surroundings = s.surroundings := rfl

@[simp] theorem respond_surroundings (code : Code) (data : Word) (s : State) :
    (respond code data s).surroundings = s.surroundings := rfl

@[simp] theorem hold_surroundings (w : Held) (s : State) : (hold w s).surroundings = s.surroundings := rfl

@[simp] theorem busWrite_surroundings (id : Byte) (v : Half) (s : State) :
    (busWrite id v s).2.surroundings = s.surroundings := by
  rw [busWrite_frame]; rfl

@[simp] theorem busRead_surroundings (id : Byte) (s : State) : (busRead id s).2.surroundings = s.surroundings := by
  rw [busRead_frame]; rfl

@[simp] theorem afterCtrlRegRead_surroundings (o : CtrlReg) (s : State) :
    (afterCtrlRegRead o s).surroundings = s.surroundings := by
  cases o <;> rfl

@[simp] theorem writeCtrlReg_surroundings (o : CtrlReg) (d : Word) (s : State) :
    (writeCtrlReg o d s).surroundings = s.surroundings := by
  cases o with
  | ctrl | irqMask | framePtr => rfl
  | irqStatus => unfold writeCtrlReg; dsimp only; split <;> rfl

@[simp] theorem afterDiag_surroundings (i : Byte) (s : State) : (afterDiag i s).surroundings = s.surroundings := by
  unfold afterDiag
  split <;> simp

/-! ### Commands -/

theorem execArm_surroundings {b : Word} {s t : State} (h : execArm b s = .next t) :
    t.surroundings = s.surroundings := by
  cases h
  split <;> rfl

theorem execHarvest_surroundings {n : Word} {s t : State} (h : execHarvest n s = .next t) :
    t.surroundings = s.surroundings := by
  cases h
  split <;> rfl

theorem execWaitFrame_surroundings {τ : Word} {s t : State} (h : execWaitFrame τ s = .next t) :
    t.surroundings = s.surroundings := by
  cases h
  split
  · cases s.last <;> rfl
  · split
    · rfl
    · split
      · rfl
      · split <;> rfl

theorem execDiag_surroundings {i : Byte} {s t : State} (h : execDiag i s = .next t) :
    t.surroundings = s.surroundings := by
  cases h
  split <;> simp

theorem execSregWr_surroundings {id : Byte} {v : Half} {s t : State} (h : execSregWr id v s = .next t) :
    t.surroundings = s.surroundings := by
  cases h
  split
  · simp
  · dsimp only
    split <;> simp

theorem execSregRd_surroundings {id : Byte} {s t : State} (h : execSregRd id s = .next t) :
    t.surroundings = s.surroundings := by
  cases h
  split
  · simp
  · dsimp only
    split <;> simp

theorem execSregRmw_surroundings {id : Byte} {set clear : Half} {s t : State}
    (h : execSregRmw id set clear s = .next t) : t.surroundings = s.surroundings := by
  cases h
  split
  · simp
  · dsimp only
    split
    · simp
    · split <;> simp

theorem execSetopt_surroundings {i : Byte} {x : Word} {s t : State} (h : execSetopt i x s = .next t) :
    t.surroundings = s.surroundings := by
  cases h
  split
  · rfl
  · split
    · rfl
    · split <;> rfl

theorem execConfigure_surroundings {s t : State} (h : execConfigure s = .next t) :
    t.surroundings = s.surroundings := by
  cases h
  split <;> rfl

theorem execGetopt_surroundings {i : Byte} {s t : State} (h : execGetopt i s = .next t) :
    t.surroundings = s.surroundings := by
  cases h
  split <;> simp

/-- No command writes the surroundings. -/
theorem exec_surroundings {i : Instr} {s t : State} (h : exec i s = .next t) : t.surroundings = s.surroundings := by
  cases i with
  | regRd o => cases h; simp
  | regWr o d => cases h; simp
  | enable | disable | enableRx | disableRx | setIrqEn | frameReady | setTarget | getTarget | ack => cases h; rfl
  | arm b => exact execArm_surroundings h
  | harvest n => exact execHarvest_surroundings h
  | waitFrame τ => exact execWaitFrame_surroundings h
  | diag item => exact execDiag_surroundings h
  | sregWr id v => exact execSregWr_surroundings h
  | sregRd id => exact execSregRd_surroundings h
  | sregRmw id set clear => exact execSregRmw_surroundings h
  | setopt index x => exact execSetopt_surroundings h
  | configure => exact execConfigure_surroundings h
  | getopt index => exact execGetopt_surroundings h

/-- No command word writes the surroundings. -/
theorem runWord_surroundings {w : CmdWord} {s t : State} (h : runWord w s = .next t) :
    t.surroundings = s.surroundings := by
  obtain ⟨i, -, hi⟩ | ⟨e, -, rfl⟩ := runWord_cases h
  · exact exec_surroundings hi
  · rfl

/-! ### The sequencer -/

@[simp] theorem seqFinish_surroundings (code : Code) (id : Byte) (s : State) :
    (seqFinish code id s).surroundings = s.surroundings := by
  unfold seqFinish
  dsimp only
  split <;> rfl

@[simp] theorem seqAdvance_surroundings (txns : List Txn) (k : Nat) (x : Half) (s : State) :
    (seqAdvance txns k x s).surroundings = s.surroundings := by
  unfold seqAdvance
  split
  · simp
  · rfl

@[simp] theorem seqTransact_surroundings (txns : List Txn) (k : Nat) (rmw : Half) (x : Txn) (s : State) :
    (seqTransact txns k rmw x s).surroundings = s.surroundings := by
  cases x with
  | w id v | rr id | rw id set clear =>
    unfold seqTransact
    dsimp only
    split <;> simp

/-- No sequencer step writes the surroundings. -/
@[simp] theorem seqStep_surroundings (s : State) : (seqStep s).surroundings = s.surroundings := by
  obtain ⟨txns, k, rmw, x, -, -, h⟩ | h := seqStep_cases s
  · rw [h, seqTransact_surroundings]
  · rw [h]

/-! ### The parameters -/

theorem exec_params {i : Instr} {s t : State} (h : exec i s = .next t) : t.params = s.params :=
  congrArg Surroundings.params (exec_surroundings h)

theorem portStep_params {c : Ctx} {s t : State} (h : portStep c s = .next t) : t.params = s.params := by
  obtain ⟨τ, -, hw⟩ | ⟨-, rfl⟩ | ⟨-, -, rfl⟩ | ⟨w, rest, -, -, hw⟩ := portStep_cases h
  · exact (exec_params hw).trans (asCtx_params c s)
  · rfl
  · rfl
  · exact (congrArg Surroundings.params (runWord_surroundings hw)).trans (issue_params c rest s)

theorem engineStep_params {s t : State} (h : engineStep s = .next t) : t.params = s.params := by
  obtain ⟨-, -, -, rfl⟩ | ⟨base, n, -, -, rfl⟩ | ⟨base, -, rfl⟩ | rfl := engineStep_cases h <;> rfl

@[simp] theorem seqStep_params (s : State) : (seqStep s).params = s.params :=
  congrArg Surroundings.params (seqStep_surroundings s)

@[simp] theorem hostAct_params (a : HostAct) (s : State) : (hostAct a s).params = s.params := by
  cases a <;> rfl

@[simp] theorem hostStep_params (s : State) : (hostStep s).params = s.params := by
  obtain ⟨-, h⟩ | ⟨a, rest, -, h⟩ := hostStep_cases s
  · rw [h]
  · rw [h, hostAct_params]

/-- Settles O15: each agent's turn keeps the parameters, and taking the scheduling draw does too. -/
theorem parametersNeverChange : Obligations.ParametersNeverChange := by
  intro s t h
  rw [← State.withEnv_params s s.env.takeAgent]
  obtain ⟨c, -, hp⟩ | ⟨-, he⟩ | ⟨-, rfl⟩ | ⟨-, rfl⟩ := step_cases h
  · exact portStep_params hp
  · exact engineStep_params he
  · exact seqStep_params _
  · exact hostStep_params _

/-! ### Frame memory -/

theorem exec_mem {i : Instr} {s t : State} (h : exec i s = .next t) : t.mem = s.mem :=
  congrArg Surroundings.mem (exec_surroundings h)

theorem exec_memLog {i : Instr} {s t : State} (h : exec i s = .next t) : t.memLog = s.memLog :=
  congrArg Surroundings.memLog (exec_surroundings h)

@[simp] theorem seqStep_mem (s : State) : (seqStep s).mem = s.mem :=
  congrArg Surroundings.mem (seqStep_surroundings s)

@[simp] theorem seqStep_memLog (s : State) : (seqStep s).memLog = s.memLog :=
  congrArg Surroundings.memLog (seqStep_surroundings s)

/-- PIXEL writes no byte outside the two of its pixel (R152). -/
theorem read_enginePixel_other {base : Word} {n x : Nat} (s : State) (h0 : x ≠ (pixelAddr base n).toNat)
    (h1 : x ≠ (pixelAddr base n + 1#32).toNat) : (enginePixel base n s).mem.read x = s.mem.read x := by
  unfold enginePixel pixelToBytes
  dsimp only
  split <;> exact Memory.read_writeBytes_two h0 h1

/-- An engine step leaves memory and its log alone, or is a PIXEL (R152). -/
theorem engineStep_mem_cases {s t : State} (h : engineStep s = .next t) :
    (t.mem = s.mem ∧ t.memLog = s.memLog) ∨
    ∃ base n, s.eng = .capturing base n ∧ n < framePixels ∧ t = enginePixel base n s := by
  obtain ⟨-, -, -, rfl⟩ | hpixel | ⟨base, -, rfl⟩ | rfl := engineStep_cases h
  · exact .inl ⟨rfl, rfl⟩
  · exact .inr hpixel
  · exact .inl ⟨rfl, rfl⟩
  · exact .inl ⟨rfl, rfl⟩

/-- A host read returns the bytes written, at addresses modulo 2^32 (R71). -/
theorem Memory.readBytes_getElem?_of_read {m : Memory} {a : Word} {len k : Nat} {b : Byte} (hk : k < len)
    (hb : m.read (a + BitVec.ofNat 32 k).toNat = some b) : (m.readBytes a len)[k]? = some b := by
  rw [Memory.readBytes_getElem? m a hk, Memory.hostByte_of_read hb]

/-- Settles O19: commands and the sequencer keep the surroundings, of the engine's steps only PIXEL writes memory, and
the host's accesses are the memory laws of a MemWrite and a MemRead. -/
theorem onlyPixelStepsWriteFrameMemory : Obligations.OnlyPixelStepsWriteFrameMemory := by
  refine ⟨?_, ?_, ?_, ?_, ?_⟩
  · intro i s t h
    exact ⟨exec_mem h, exec_memLog h⟩
  · intro s
    exact ⟨seqStep_mem s, seqStep_memLog s⟩
  · intro s t h
    obtain hkept | ⟨base, n, heng, hn, rfl⟩ := engineStep_mem_cases h
    · exact .inl hkept
    · exact .inr ⟨base, n, heng, hn, rfl, fun x h0 h1 => read_enginePixel_other s h0 h1⟩
  · intro s a bytes hlen
    exact ⟨rfl, fun k b hb => Memory.read_writeBytes s.mem a hlen hb,
      fun x hx => Memory.read_writeBytes_other s.mem a bytes hx⟩
  · intro s a len
    exact ⟨s.mem.readBytes a len, rfl, Memory.length_readBytes ..,
      fun k b hk hb => Memory.readBytes_getElem?_of_read hk hb⟩

end Sys2Proof.Machine

/-!
PROOFS. 10_state.md: what a command can do to the state, said once (`exec_cases`). The statements about all commands are
read off it in the parts below.
-/
namespace Sys2Proof.Machine

/-! ### The sequencer's flag and the sensor's part of the state -/

@[simp] theorem Sequencer.isRunning_eq_false_iff (q : Sequencer) : q.isRunning = false ↔ q = .sIdle := by
  cases q <;> simp [Sequencer.isRunning]

@[simp] theorem Sequencer.isRunning_eq_true_iff (q : Sequencer) : q.isRunning = true ↔ q ≠ .sIdle := by
  cases q <;> simp [Sequencer.isRunning]

/-- The state after bus traffic: SR, the bus log and the draws are all it can change (R39, R41, R160, R161). -/
def State.withSensor (s : State) (sr : Vector Half 256) (log : List BusEntry) (e : Env) : State :=
  { s with sr := sr, busLog := log, env := e }

theorem busWrite_withSensor (id : Byte) (v : Half) (s : State) :
    ∃ sr log e, (busWrite id v s).2 = s.withSensor sr log e :=
  ⟨_, _, _, busWrite_frame id v s⟩

theorem busRead_withSensor (id : Byte) (s : State) : ∃ log e, (busRead id s).2 = s.withSensor s.sr log e :=
  ⟨_, _, busRead_frame id s⟩

/-- A failed write leaves SR[id] the draw that follows the success draw (R160). -/
theorem busWrite_fail_withSensor {id : Byte} {v : Half} {s : State} (h : s.nextBusOk = false) :
    busWrite id v s =
      (false, s.withSensor (s.sr.set id.toNat (s.withEnv s.env.takeBusOk).nextSensorVal id.isLt)
        (s.busLog ++ [⟨.write, id, v, false⟩]) s.env.takeBusOk.takeSensorVal) := by
  rw [busWrite_fail h]
  rfl

/-! ### REG_WR -/

theorem writeCtrlReg_irqStatus (d : Word) (s : State) :
    writeCtrlReg .irqStatus d s = { s with pend := s.pend && !d.getLsbD 0 } := by
  unfold writeCtrlReg
  cases d.getLsbD 0 <;> simp [clearPend]

/-- REG_WR changes controller registers, and may stop the engine (R109, R110). -/
theorem writeCtrlReg_frame (o : CtrlReg) (d : Word) (s : State) :
    writeCtrlReg o d s = { s with rx := (writeCtrlReg o d s).rx, pwr := (writeCtrlReg o d s).pwr,
                                  ie := (writeCtrlReg o d s).ie, pend := (writeCtrlReg o d s).pend,
                                  fp := (writeCtrlReg o d s).fp, eng := (writeCtrlReg o d s).eng } := by
  cases o with
  | ctrl | irqMask | framePtr => rfl
  | irqStatus => rw [writeCtrlReg_irqStatus]

/-! ### What a command can do -/

/-- `CommandEffect s i u`: `u` is a state in which command `i`, run at `s`, may be answered (R210), the response not yet
delivered. A refusal, a read and a wait that ends without a frame use up draws at most. -/
inductive CommandEffect (s : State) : Instr → State → Prop
  | draws (i : Instr) (e : Env) : CommandEffect s i (s.withEnv e)
  | regWr (o : CtrlReg) (d : Word) : CommandEffect s (.regWr o d) (writeCtrlReg o d s)
  | enable : CommandEffect s .enable (writeCtrl true true s)
  | disable : CommandEffect s .disable { writeCtrl false false s with fsm := .idle, armed := none }
  | enableRx : CommandEffect s .enableRx (writeCtrl true s.pwr s)
  | disableRx : CommandEffect s .disableRx (writeCtrl false s.pwr s)
  | setIrqEn (b : Bool) : CommandEffect s (.setIrqEn b) { s with ie := b }
  | setTarget (a : Word) : CommandEffect s (.setTarget a) (writeFp a s)
  | ack : CommandEffect s .ack (clearPend s)
  | arm (b : Word) (accepted : armRefused b s = false) : CommandEffect s (.arm b) (armAccepted b s)
  | harvest (n : Word) (accepted : harvestRefused n s = false) : CommandEffect s (.harvest n) (harvestAccepted n s)
  | waitFrame (τ : Word) (e : Env) : CommandEffect s (.waitFrame τ) (takeReady (s.withEnv e))
  | sregWr (id : Byte) (v : Half) (sr : Vector Half 256) (log : List BusEntry) (e : Env) :
      CommandEffect s (.sregWr id v) (s.withSensor sr log e)
  | sregRd (id : Byte) (log : List BusEntry) (e : Env) : CommandEffect s (.sregRd id) (s.withSensor s.sr log e)
  | sregRmw (id : Byte) (set clear : Half) (sr : Vector Half 256) (log : List BusEntry) (e : Env) :
      CommandEffect s (.sregRmw id set clear) (s.withSensor sr log e)
  | setopt (i : Byte) (x : Word) (width : Nat) (hwidth : optWidth s.params i = some width) (idle : s.seq = .sIdle)
      (fits : x.toNat < 2 ^ width) : CommandEffect s (.setopt i x) { s with opt := s.opt.set i x }

/-- `Answers s i t`: at `t` the command is answered. -/
def Answers (s : State) (i : Instr) (t : State) : Prop :=
  ∃ u code data, CommandEffect s i u ∧ t = respond code data u

/-- A command answered with nothing changed: a refusal, or a read of what is not drawn. -/
theorem Answers.unchanged (s : State) (i : Instr) (code : Code) (data : Word) :
    Answers s i (respond code data s) :=
  ⟨s, code, data, .draws i s.env, rfl⟩

theorem Answers.respond {s u : State} {i : Instr} (h : CommandEffect s i u) (code : Code) (data : Word) :
    Answers s i (respond code data u) :=
  ⟨u, code, data, h, rfl⟩

theorem CommandEffect.afterCtrlRegRead (s : State) (i : Instr) (o : CtrlReg) :
    CommandEffect s i (afterCtrlRegRead o s) := by
  cases o with
  | ctrl | irqMask | irqStatus => exact .draws i s.env.takeWord
  | framePtr => exact .draws i s.env

theorem CommandEffect.afterDiag (s : State) (i : Instr) (item : Byte) : CommandEffect s i (afterDiag item s) := by
  unfold Machine.afterDiag
  split
  · exact .afterCtrlRegRead s i .ctrl
  · exact .afterCtrlRegRead s i .irqMask
  · exact .afterCtrlRegRead s i .irqStatus
  · exact .draws i s.env

theorem execArm_answers {b : Word} {s t : State} (h : execArm b s = .next t) : Answers s (.arm b) t := by
  cases h
  split
  · exact .unchanged ..
  · rename_i accepted
    exact .respond (.arm b (by simpa using accepted)) ..

theorem execHarvest_answers {n : Word} {s t : State} (h : execHarvest n s = .next t) : Answers s (.harvest n) t := by
  cases h
  split
  · exact .unchanged ..
  · rename_i accepted
    exact .respond (.harvest n (by simpa using accepted)) ..

/-- WAIT_FRAME takes the ready frame, is answered without one, or holds (R140). -/
theorem execWaitFrame_cases {τ : Word} {s t : State} (h : execWaitFrame τ s = .next t) :
    Answers s (.waitFrame τ) t ∨ ∃ e, t = hold (.waitFrame τ) (s.withEnv e) := by
  cases h
  split
  · split
    · exact .inl (.respond (.waitFrame τ s.env) ..)
    · exact .inl (.respond (.waitFrame τ _) ..)
  · split
    · exact .inl (.unchanged ..)
    · split
      · exact .inr ⟨s.env, rfl⟩
      · split
        · exact .inl (.respond (.draws _ _) ..)
        · exact .inr ⟨_, rfl⟩

theorem execDiag_answers {item : Byte} {s t : State} (h : execDiag item s = .next t) : Answers s (.diag item) t := by
  cases h
  split
  · exact .respond (.afterDiag s _ item) ..
  · exact .unchanged ..

theorem execSregWr_answers {id : Byte} {v : Half} {s t : State} (h : execSregWr id v s = .next t) :
    Answers s (.sregWr id v) t := by
  obtain ⟨sr, log, e, hbus⟩ := busWrite_withSensor id v s
  cases h
  dsimp only
  rw [hbus]
  split
  · exact .unchanged ..
  · split <;> exact .respond (.sregWr id v sr log e) ..

theorem execSregRd_answers {id : Byte} {s t : State} (h : execSregRd id s = .next t) : Answers s (.sregRd id) t := by
  obtain ⟨log, e, hbus⟩ := busRead_withSensor id s
  cases h
  dsimp only
  rw [hbus]
  split
  · exact .unchanged ..
  · split <;> exact .respond (.sregRd id log e) ..

theorem execSregRmw_answers {id : Byte} {set clear : Half} {s t : State} (h : execSregRmw id set clear s = .next t) :
    Answers s (.sregRmw id set clear) t := by
  obtain ⟨log, e, hread⟩ := busRead_withSensor id s
  cases h
  dsimp only
  rw [hread]
  split
  · exact .unchanged ..
  · split
    · exact .respond (.sregRmw id set clear s.sr log e) ..
    · rename_i v _
      obtain ⟨sr', log', e', hwrite⟩ := busWrite_withSensor id (rmwValue v set clear) (s.withSensor s.sr log e)
      rw [hwrite]
      split <;> exact .respond (.sregRmw id set clear sr' log' e') ..

theorem execSetopt_answers {i : Byte} {x : Word} {s t : State} (h : execSetopt i x s = .next t) :
    Answers s (.setopt i x) t := by
  cases h
  split
  · exact .unchanged ..
  · rename_i width hwidth
    split
    · exact .unchanged ..
    · rename_i idle
      split
      · exact .unchanged ..
      · rename_i fits
        exact .respond (.setopt i x width hwidth (by simpa using idle) (by omega)) ..

theorem execGetopt_answers {i : Byte} {s t : State} (h : execGetopt i s = .next t) : Answers s (.getopt i) t := by
  cases h
  split <;> exact .unchanged ..

/-- The state in which CONFIGURE has started the sequencer (R177, R179). -/
def configureStarted (s : State) : State := { s with seq := .running (transactions s.params s.opt) 0 0#16 }

theorem execConfigure_cases {s t : State} (h : execConfigure s = .next t) :
    Answers s .configure t ∨ (configureRefused s = false ∧ t = hold .configure (configureStarted s)) := by
  cases h
  split
  · exact .inl (.unchanged ..)
  · rename_i accepted
    exact .inr ⟨by simpa using accepted, rfl⟩

/-- What a command can do: it is answered, or it is a WAIT_FRAME or an accepted CONFIGURE and holds (R210, R216). -/
theorem exec_cases {i : Instr} {s t : State} (h : exec i s = .next t) :
    Answers s i t ∨
    (∃ τ e, i = .waitFrame τ ∧ t = hold (.waitFrame τ) (s.withEnv e)) ∨
    (i = .configure ∧ configureRefused s = false ∧ t = hold .configure (configureStarted s)) := by
  cases i with
  | regRd o => cases h; exact .inl (.respond (.afterCtrlRegRead s _ o) ..)
  | regWr o d => cases h; exact .inl (.respond (.regWr o d) ..)
  | enable => cases h; exact .inl (.respond .enable ..)
  | disable => cases h; exact .inl (.respond .disable ..)
  | enableRx => cases h; exact .inl (.respond .enableRx ..)
  | disableRx => cases h; exact .inl (.respond .disableRx ..)
  | setIrqEn b => cases h; exact .inl (.respond (.setIrqEn b) ..)
  | frameReady => cases h; exact .inl (.unchanged ..)
  | setTarget a => cases h; exact .inl (.respond (.setTarget a) ..)
  | getTarget => cases h; exact .inl (.unchanged ..)
  | ack => cases h; exact .inl (.respond .ack ..)
  | arm b => exact .inl (execArm_answers h)
  | harvest n => exact .inl (execHarvest_answers h)
  | waitFrame τ =>
    obtain hanswers | ⟨e, ht⟩ := execWaitFrame_cases h
    · exact .inl hanswers
    · exact .inr (.inl ⟨τ, e, rfl, ht⟩)
  | diag item => exact .inl (execDiag_answers h)
  | sregWr id v => exact .inl (execSregWr_answers h)
  | sregRd id => exact .inl (execSregRd_answers h)
  | sregRmw id set clear => exact .inl (execSregRmw_answers h)
  | setopt index x => exact .inl (execSetopt_answers h)
  | configure =>
    obtain hanswers | hholds := execConfigure_cases h
    · exact .inl hanswers
    · exact .inr (.inr ⟨rfl, hholds⟩)
  | getopt index => exact .inl (execGetopt_answers h)

end Sys2Proof.Machine

/-!
PROOFS. 10_state.md: the invariant of the machine, operation by operation and agent by agent.
-/
namespace Sys2Proof.Machine

/-! ### The engine's registers -/

theorem EngineInv.of_waiting {s : State} (h : s.eng = .waiting) : EngineInv s := by
  simp [EngineInv, h]

/-- A CTRL write that leaves a frame in progress leaves the gate open (R109, R153). -/
theorem EngineInv.writeCtrl {s : State} (h : EngineInv s) (rx pwr : Bool) : EngineInv (writeCtrl rx pwr s) := by
  cases heng : s.eng with
  | waiting => exact .of_waiting (by simp [heng])
  | capturing base n =>
    by_cases hopen : rx = true ∧ pwr = true
    · simp only [EngineInv, heng] at h
      obtain ⟨hn, halign, hrange, -, -, hpend⟩ := h
      simp [EngineInv, heng, hopen, hn, halign, hrange, hpend]
    · exact .of_waiting (by simpa [heng, Engine.isCapturing, Decidable.imp_iff_not_or] using hopen)

/-- Clearing PEND keeps what a frame in progress needs. -/
theorem EngineInv.lower_pend {s t : State} (h : EngineInv s) (heng : t.eng = s.eng) (hpwr : t.pwr = s.pwr)
    (hrx : t.rx = s.rx) (hpend : s.pend = false → t.pend = false) : EngineInv t := by
  unfold EngineInv at h ⊢
  rw [heng, hpwr, hrx]
  split
  · trivial
  · rename_i base n hcapturing
    rw [hcapturing] at h
    obtain ⟨hn, halign, hrange, hpower, hreceive, hclear⟩ := h
    exact ⟨hn, halign, hrange, hpower, hreceive, hpend hclear⟩

/-- ARM and HARVEST close the gate on the way, so no frame is in progress after them (R131, R135). -/
@[simp] theorem armAccepted_eng (b : Word) (s : State) : (armAccepted b s).eng = .waiting := by
  cases h : s.eng <;> simp [armAccepted, Engine.isCapturing, h]

@[simp] theorem harvestAccepted_eng (n : Word) (s : State) : (harvestAccepted n s).eng = .waiting := by
  cases h : s.eng <;> simp [harvestAccepted, Engine.isCapturing, h]

/-! ### The invariant under each operation of a command -/

theorem StateInv.writeCtrl {s : State} (h : StateInv s) (rx pwr : Bool) : StateInv (writeCtrl rx pwr s) := by
  obtain ⟨hparams, hmem, heng, hrest⟩ := h
  exact ⟨hparams, hmem, heng.writeCtrl rx pwr, hrest⟩

theorem StateInv.writeFp {s : State} (h : StateInv s) (v : Word) : StateInv (writeFp v s) := by
  obtain ⟨hparams, hmem, heng, hrest⟩ := h
  exact ⟨hparams, hmem, heng.lower_pend rfl rfl rfl (by simp +contextual), hrest⟩

theorem StateInv.clearPend {s : State} (h : StateInv s) : StateInv (clearPend s) := by
  obtain ⟨hparams, hmem, heng, hrest⟩ := h
  exact ⟨hparams, hmem, heng.lower_pend rfl rfl rfl (by simp), hrest⟩

theorem StateInv.writeCtrlReg {s : State} (h : StateInv s) (o : CtrlReg) (d : Word) :
    StateInv (writeCtrlReg o d s) := by
  cases o with
  | ctrl => exact h.writeCtrl _ _
  | irqMask => exact h
  | irqStatus =>
    obtain ⟨hparams, hmem, heng, hrest⟩ := h
    rw [writeCtrlReg_irqStatus]
    exact ⟨hparams, hmem, heng.lower_pend rfl rfl rfl (by simp +contextual), hrest⟩
  | framePtr => exact h.writeFp d

theorem SequencerInv.of_running {s : State} (h : SequencerInv s) {txns : List Txn} {k : Nat} {rmw : Half}
    (hrunning : s.seq = .running txns k rmw) :
    txns = transactions s.params s.opt ∧ k < txns.length ∧ s.fsm = .idle ∧ ∃ c, HoldsConfigure s c := by
  simpa only [SequencerInv, hrunning] using h

theorem SequencerInv.none_held {s : State} (h : SequencerInv s) (hidle : s.seq = .sIdle) (c : Ctx) :
    s.slot.get c ≠ some .configure := by
  simp only [SequencerInv, hidle] at h
  exact h c

/-- Of the FSM the sequencer's invariant asks at most that it is Idle. -/
theorem SequencerInv.of_fsm {s t : State} (h : SequencerInv s) (hseq : t.seq = s.seq) (hslot : t.slot = s.slot)
    (hparams : t.params = s.params) (hopt : t.opt = s.opt) (hfsm : s.fsm = .idle → t.fsm = .idle) :
    SequencerInv t := by
  unfold SequencerInv HoldsConfigure
  rw [hseq, hslot, hparams, hopt]
  split
  · exact h.none_held ‹_›
  · obtain ⟨htxns, hk, hidle, hholds⟩ := h.of_running ‹_›
    exact ⟨htxns, hk, hfsm hidle, hholds⟩

theorem StateInv.disable {s : State} (h : StateInv s) (rx pwr : Bool) :
    StateInv { Machine.writeCtrl rx pwr s with fsm := .idle, armed := none } := by
  obtain ⟨hparams, hmem, heng, ⟨-, hready⟩, hseq, hrest⟩ := h
  exact ⟨hparams, hmem, heng.writeCtrl rx pwr, ⟨by simp, hready⟩,
    hseq.of_fsm rfl rfl rfl rfl fun _ => rfl, hrest⟩

/-- With the sequencer SIdle its invariant speaks of the slots alone. -/
theorem SequencerInv.of_sIdle {s t : State} (h : SequencerInv s) (hidle : s.seq = .sIdle) (hseq : t.seq = .sIdle)
    (hslot : t.slot = s.slot) : SequencerInv t := by
  unfold SequencerInv
  rw [hseq, hslot]
  exact h.none_held hidle

/-- Outside Idle the sequencer is SIdle (R177). -/
theorem SequencerInv.sIdle_of_fsm {s : State} (h : SequencerInv s) (hfsm : s.fsm ≠ .idle) : s.seq = .sIdle := by
  cases hseq : s.seq with
  | sIdle => rfl
  | running txns k rmw =>
    obtain ⟨-, -, hidle, -⟩ := h.of_running hseq
    exact absurd hidle hfsm

theorem sIdle_of_armAccepted {b : Word} {s : State} (h : armRefused b s = false) : s.seq = .sIdle := by
  simp only [armRefused, Bool.or_eq_false_iff, Sequencer.isRunning_eq_false_iff] at h
  obtain ⟨⟨hseq, -⟩, -⟩ := h
  exact hseq

theorem fsm_ne_draining_of_armAccepted {b : Word} {s : State} (h : armRefused b s = false) : s.fsm ≠ .draining := by
  simp only [armRefused, Bool.or_eq_false_iff, beq_eq_false_iff_ne] at h
  obtain ⟨⟨-, hfsm⟩, -⟩ := h
  exact hfsm

theorem draining_of_harvestAccepted {n : Word} {s : State} (h : harvestRefused n s = false) : s.fsm = .draining := by
  simp only [harvestRefused, Bool.or_eq_false_iff, bne_eq_false_iff_eq] at h
  obtain ⟨hfsm, -⟩ := h
  exact hfsm

theorem StateInv.armAccepted {s : State} (h : StateInv s) {b : Word} (accepted : armRefused b s = false) :
    StateInv (armAccepted b s) := by
  obtain ⟨hparams, hmem, -, ⟨-, hready⟩, hseq, hrest⟩ := h
  have hidle := sIdle_of_armAccepted accepted
  exact ⟨hparams, hmem, .of_waiting (armAccepted_eng b s), ⟨by simp [Machine.armAccepted], hready⟩,
    hseq.of_sIdle hidle hidle rfl, hrest⟩

theorem StateInv.harvestAccepted {s : State} (h : StateInv s) {n : Word} (accepted : harvestRefused n s = false) :
    StateInv (harvestAccepted n s) := by
  obtain ⟨hparams, hmem, -, -, hseq, hrest⟩ := h
  have hidle : s.seq = .sIdle := hseq.sIdle_of_fsm (by simp [draining_of_harvestAccepted accepted])
  exact ⟨hparams, hmem, .of_waiting (harvestAccepted_eng n s), by simp [SessionInv, Machine.harvestAccepted],
    hseq.of_sIdle hidle hidle rfl, hrest⟩

theorem StateInv.takeReady {s : State} (h : StateInv s) : StateInv (takeReady s) := by
  obtain ⟨hparams, hmem, heng, ⟨harmed, -⟩, hrest⟩ := h
  exact ⟨hparams, hmem, heng, ⟨harmed, by simp [Machine.takeReady]⟩, hrest⟩

/-- SETOPT writes PIXCLK_DIV at its own index only (R38). -/
theorem Options.set_pixclkDiv (o : Options) (i : Byte) (x : Word) :
    (o.set i x).pixclkDiv = if i = 10#8 then x.setWidth 16 else o.pixclkDiv := by
  unfold Options.set
  split <;> simp_all

theorem OptionInv.set {s : State} (h : OptionInv s) {i : Byte} {x : Word} {width : Nat}
    (hwidth : optWidth s.params i = some width) (fits : x.toNat < 2 ^ width) :
    OptionInv { s with opt := s.opt.set i x } := by
  unfold OptionInv at h ⊢
  dsimp only
  rw [Options.set_pixclkDiv]
  split
  · rename_i hi
    subst hi
    obtain rfl : s.params.pixclkDivBits = width := by simpa [optWidth] using hwidth
    exact lt_of_le_of_lt (by simpa using Nat.mod_le _ _) fits
  · exact h

theorem StateInv.setopt {s : State} (h : StateInv s) {i : Byte} {x : Word} {width : Nat}
    (hwidth : optWidth s.params i = some width) (idle : s.seq = .sIdle) (fits : x.toNat < 2 ^ width) :
    StateInv { s with opt := s.opt.set i x } := by
  obtain ⟨hparams, hmem, heng, hsess, hseq, hresult, hopt⟩ := h
  exact ⟨hparams, hmem, heng, hsess, hseq.of_sIdle idle idle rfl, hresult, hopt.set hwidth fits⟩

/-! ### The invariant under a command -/

theorem CommandEffect.stateInv {s u : State} {i : Instr} (h : CommandEffect s i u) (hs : StateInv s) : StateInv u := by
  cases h with
  | draws | setIrqEn | sregWr | sregRd | sregRmw => exact hs
  | regWr o d => exact hs.writeCtrlReg o d
  | enable | enableRx | disableRx => exact hs.writeCtrl _ _
  | disable => exact hs.disable _ _
  | setTarget a => exact hs.writeFp a
  | ack => exact hs.clearPend
  | arm b accepted => exact hs.armAccepted accepted
  | harvest n accepted => exact hs.harvestAccepted accepted
  | waitFrame τ e => exact StateInv.takeReady (s := s.withEnv e) hs
  | setopt i x width hwidth idle fits => exact hs.setopt hwidth idle fits

/-- Until it is answered a command writes neither slots nor responses, and it runs for one context. -/
theorem CommandEffect.port_kept {s u : State} {i : Instr} (h : CommandEffect s i u) :
    u.slot = s.slot ∧ u.responses = s.responses ∧ u.ctx = s.ctx := by
  cases h with
  | regWr o d =>
    rw [writeCtrlReg_frame]
    exact ⟨rfl, rfl, rfl⟩
  | _ => exact ⟨rfl, rfl, rfl⟩

/-- A slot that holds no CONFIGURE is emptied or holds a wait: the CONFIGURE held, if any, is the same. -/
theorem SequencerInv.setSlot {s : State} (h : SequencerInv s) {c : Ctx} {x : Option Held}
    (hc : s.slot.get c ≠ some .configure) (hx : x ≠ some .configure) :
    SequencerInv { s with slot := s.slot.set c x } := by
  have hget (d : Ctx) : (s.slot.set c x).get d = some .configure ↔ s.slot.get d = some .configure := by
    by_cases hd : d = c
    · subst hd
      simp [hc, hx]
    · rw [PerCtx.get_set_other s.slot hd]
  simpa only [SequencerInv, HoldsConfigure, ne_eq, hget] using h

theorem StateInv.setSlot {s : State} (h : StateInv s) {c : Ctx} {x : Option Held}
    (hc : s.slot.get c ≠ some .configure) (hx : x ≠ some .configure) :
    StateInv { s with slot := s.slot.set c x } := by
  obtain ⟨hparams, hmem, heng, hsess, hseq, hrest⟩ := h
  exact ⟨hparams, hmem, heng, hsess, hseq.setSlot hc hx, hrest⟩

theorem StateInv.respond {s : State} (h : StateInv s) (hc : s.slot.get s.ctx ≠ some .configure) (code : Code)
    (data : Word) : StateInv (respond code data s) :=
  h.setSlot hc (x := none) (by simp)

/-- CONFIGURE is accepted with the sequencer SIdle and the FSM Idle only (R177). -/
theorem idle_of_configureAccepted {s : State} (h : configureRefused s = false) : s.seq = .sIdle ∧ s.fsm = .idle := by
  simp only [configureRefused, Bool.or_eq_false_iff, Sequencer.isRunning_eq_false_iff, bne_eq_false_iff_eq] at h
  obtain ⟨⟨hseq, hfsm⟩, -⟩ := h
  exact ⟨hseq, hfsm⟩

theorem transactions_length_pos (p : Params) (o : Options) : 0 < (transactions p o).length := by
  simp [transactions]

theorem StateInv.configureStarted {s : State} (h : StateInv s) (accepted : configureRefused s = false) :
    StateInv (hold .configure (configureStarted s)) := by
  obtain ⟨hparams, hmem, heng, hsess, hseq, hrest⟩ := h
  obtain ⟨hidle, hfsm⟩ := idle_of_configureAccepted accepted
  have hholds : HoldsConfigure (hold .configure (Machine.configureStarted s)) s.ctx := by
    refine ⟨PerCtx.get_set_same .., fun d hd => ?_⟩
    show (s.slot.set s.ctx (some .configure)).get d ≠ _
    rw [PerCtx.get_set_other s.slot hd]
    exact hseq.none_held hidle d
  exact ⟨hparams, hmem, heng, hsess, ⟨rfl, transactions_length_pos .., hfsm, s.ctx, hholds⟩, hrest⟩

/-- A command issued or re-examined for a context that holds no CONFIGURE keeps the invariant. -/
theorem exec_stateInv {i : Instr} {s t : State} (hs : StateInv s) (hc : s.slot.get s.ctx ≠ some .configure)
    (h : exec i s = .next t) : StateInv t := by
  obtain ⟨u, code, data, heffect, rfl⟩ | ⟨τ, e, -, rfl⟩ | ⟨-, accepted, rfl⟩ := exec_cases h
  · obtain ⟨hslot, -, hctx⟩ := heffect.port_kept
    exact (heffect.stateInv hs).respond (by rwa [hslot, hctx]) code data
  · exact hs.setSlot hc (x := some (.waitFrame τ)) (by simp)
  · exact hs.configureStarted accepted

theorem portStep_stateInv {c : Ctx} {s t : State} (hs : StateInv s) (h : portStep c s = .next t) : StateInv t := by
  obtain ⟨τ, hslot, hrun⟩ | ⟨-, rfl⟩ | ⟨-, -, rfl⟩ | ⟨w, rest, hslot, -, hrun⟩ := portStep_cases h
  · exact exec_stateInv (s := asCtx c s) hs (by simp [hslot]) hrun
  · exact hs
  · exact hs
  · have hissue : StateInv (issue c rest s) := hs
    obtain ⟨i, -, hi⟩ | ⟨e, -, rfl⟩ := runWord_cases hrun
    · exact exec_stateInv hissue (by simp [hslot]) hi
    · exact hissue.respond (by simp [hslot]) ..

/-! ### The invariant under the engine -/

theorem startEnabled_eq_true_iff (s : State) :
    s.startEnabled = true ↔ s.eng.isCapturing = false ∧ (s.pwr = true ∧ s.rx = true) ∧ s.pend = false := by
  simp [State.startEnabled, State.gate, and_assoc]

theorem StateInv.engineStart {s : State} (h : StateInv s) (henabled : s.startEnabled = true)
    (halign : baseAligned s.fp = true) (hrange : baseInRange s.fp = true) :
    StateInv { s with eng := .capturing s.fp 0 } := by
  obtain ⟨hparams, hmem, -, hrest⟩ := h
  obtain ⟨-, ⟨hpwr, hrx⟩, hpend⟩ := (startEnabled_eq_true_iff s).1 henabled
  exact ⟨hparams, hmem, ⟨Nat.zero_le _, halign, hrange, hpwr, hrx, hpend⟩, hrest⟩

theorem StateInv.enginePixel {s : State} (h : StateInv s) {base : Word} {n : Nat} (heng : s.eng = .capturing base n)
    (hn : n < framePixels) : StateInv (enginePixel base n s) := by
  obtain ⟨hparams, hmem, hengine, hrest⟩ := h
  simp only [EngineInv, heng] at hengine
  obtain ⟨-, hkept⟩ := hengine
  exact ⟨hparams, Memory.writeBytes_wf hmem .., ⟨hn, hkept⟩, hrest⟩

/-- COMPLETE moves the FSM between two states other than Idle, or not at all (R154). -/
theorem engineComplete_fsm_cases (s : State) :
    (engineComplete s).fsm = s.fsm ∨ (s.fsm = .armed ∧ (engineComplete s).fsm = .draining) := by
  unfold engineComplete
  dsimp only
  split
  · exact .inr ⟨‹_›, rfl⟩
  · exact .inl rfl

theorem engineComplete_fsm_idle_iff (s : State) : (engineComplete s).fsm = .idle ↔ s.fsm = .idle := by
  obtain h | ⟨hold, hnew⟩ := engineComplete_fsm_cases s
  · rw [h]
  · simp [hold, hnew]

theorem StateInv.engineComplete {s : State} (h : StateInv s) : StateInv (engineComplete s) := by
  obtain ⟨hparams, hmem, -, ⟨harmed, hready⟩, hseq, hrest⟩ := h
  refine ⟨hparams, hmem, .of_waiting rfl, ⟨?_, hready⟩, ?_, hrest⟩
  · exact harmed.trans (engineComplete_fsm_idle_iff s).symm
  · exact hseq.of_fsm rfl rfl rfl rfl (engineComplete_fsm_idle_iff s).2

theorem engineStep_stateInv {s t : State} (hs : StateInv s) (h : engineStep s = .next t) : StateInv t := by
  obtain ⟨hstart, halign, hrange, rfl⟩ | ⟨base, n, heng, hn, rfl⟩ | ⟨base, -, rfl⟩ | rfl := engineStep_cases h
  · exact hs.engineStart hstart halign hrange
  · exact hs.enginePixel heng hn
  · exact hs.engineComplete
  · exact hs

/-! ### The invariant under the sequencer -/

/-- The one context that holds a CONFIGURE is the one `finish` answers (R195). -/
theorem configureOwner_of_holds {s : State} {c : Ctx} (h : HoldsConfigure s c) : configureOwner s = some c := by
  obtain ⟨hc, hother⟩ := h
  cases c with
  | main => exact if_pos hc
  | irq => exact (if_neg (hother .main (by simp))).trans (if_pos hc)

theorem seqFinish_of_holds {s : State} {c : Ctx} (h : HoldsConfigure s c) (code : Code) (id : Byte) :
    seqFinish code id s = finished c code id s := by
  unfold seqFinish
  rw [configureOwner_of_holds h]
  rfl

theorem seqAdvance_of_holds {s : State} {c : Ctx} (h : HoldsConfigure s c) (txns : List Txn) (k : Nat) (x : Half) :
    seqAdvance txns k x s = advanced c txns k x s := by
  unfold seqAdvance advanced
  rw [seqFinish_of_holds h]

/-- A transaction changes what bus traffic changes; then the sequencer advances, or finishes with the transaction's
error (R190, R194). -/
theorem seqTransact_cases (txns : List Txn) (k : Nat) (rmw : Half) (y : Txn) (s : State) :
    ∃ sr log e, (∃ x, seqTransact txns k rmw y s = seqAdvance txns k x (s.withSensor sr log e)) ∨
      seqTransact txns k rmw y s = seqFinish y.failure y.target (s.withSensor sr log e) := by
  cases y with
  | w id v =>
    obtain ⟨sr, log, e, hbus⟩ := busWrite_withSensor id v s
    refine ⟨sr, log, e, ?_⟩
    unfold seqTransact
    dsimp only
    rw [hbus]
    split
    · exact .inl ⟨rmw, rfl⟩
    · exact .inr rfl
  | rr id =>
    obtain ⟨log, e, hbus⟩ := busRead_withSensor id s
    refine ⟨s.sr, log, e, ?_⟩
    unfold seqTransact
    dsimp only
    rw [hbus]
    split
    · exact .inl ⟨_, rfl⟩
    · exact .inr rfl
  | rw id set clear =>
    obtain ⟨sr, log, e, hbus⟩ := busWrite_withSensor id (rmwValue rmw set clear) s
    refine ⟨sr, log, e, ?_⟩
    unfold seqTransact
    dsimp only
    rw [hbus]
    split
    · exact .inl ⟨rmw, rfl⟩
    · exact .inr rfl

theorem Txn.failure_num_le (y : Txn) : y.failure.num.toNat ≤ 2 := by
  cases y <;> simp [Txn.failure, Code.num]

theorem StateInv.finished {s : State} (h : StateInv s) {c : Ctx} (hc : HoldsConfigure s c) {code : Code}
    (hcode : code.num.toNat ≤ 2) (id : Byte) : StateInv (finished c code id s) := by
  obtain ⟨hparams, hmem, heng, hsess, -, -, hopt⟩ := h
  obtain ⟨-, hother⟩ := hc
  have hnone (d : Ctx) : (s.slot.set c none).get d ≠ some .configure := by
    by_cases hd : d = c
    · simp [hd]
    · rw [PerCtx.get_set_other s.slot hd]
      exact hother d hd
  exact ⟨hparams, hmem, heng, hsess, hnone, hcode, hopt⟩

theorem StateInv.advanced {s : State} (h : StateInv s) {txns : List Txn} {k : Nat} {rmw : Half}
    (hrunning : s.seq = .running txns k rmw) {c : Ctx} (hc : HoldsConfigure s c) (x : Half) :
    StateInv (advanced c txns k x s) := by
  unfold Machine.advanced
  split
  · exact h.finished hc (by decide) _
  · obtain ⟨hparams, hmem, heng, hsess, hseq, hrest⟩ := h
    obtain ⟨htxns, hk, hfsm, hholds⟩ := hseq.of_running hrunning
    exact ⟨hparams, hmem, heng, hsess, ⟨htxns, by omega, hfsm, hholds⟩, hrest⟩

theorem seqStep_stateInv {s : State} (hs : StateInv s) : StateInv (seqStep s) := by
  obtain ⟨txns, k, rmw, y, hrunning, -, hstep⟩ | hstep := seqStep_cases s
  · have ⟨_, _, _, _, hseq, _⟩ := hs
    obtain ⟨-, -, -, c, hc⟩ := hseq.of_running hrunning
    rw [hstep]
    obtain ⟨sr, log, e, ⟨x, hadvance⟩ | hfinish⟩ := seqTransact_cases txns k rmw y s
    all_goals
      have hs' : StateInv (s.withSensor sr log e) := hs
      have hc' : HoldsConfigure (s.withSensor sr log e) c := hc
    · rw [hadvance, seqAdvance_of_holds hc']
      exact hs'.advanced hrunning hc' x
    · rw [hfinish, seqFinish_of_holds hc']
      exact hs'.finished hc' y.failure_num_le _
  · rwa [hstep]

/-! ### The invariant at reset and under the host -/

/-- The state after reset meets the invariant under all admissible parameters (R8, R43). -/
theorem stateInv_atReset {p : Params} (hp : p.wf = true) (fp : Word) : StateInv (State.atReset p fp) := by
  have hslot (c : Ctx) : (State.atReset p fp).slot.get c ≠ some .configure := by
    cases c <;> simp [State.atReset]
  exact ⟨hp, Memory.wf_nil, trivial, by simp [SessionInv, State.atReset], hslot, Nat.zero_le _, Nat.two_pow_pos _⟩

theorem hostAct_stateInv {s : State} (hs : StateInv s) (a : HostAct) : StateInv (hostAct a s) := by
  obtain ⟨hparams, hmem, hrest⟩ := hs
  cases a with
  | reset =>
    obtain ⟨hparams', -, hrest'⟩ := stateInv_atReset hparams s.nextWord
    exact ⟨hparams', hmem, hrest'⟩
  | memWrite addr bytes => exact ⟨hparams, Memory.writeBytes_wf hmem .., hrest⟩
  | memRead addr len => exact ⟨hparams, hmem, hrest⟩

theorem hostStep_stateInv {s : State} (hs : StateInv s) : StateInv (hostStep s) := by
  obtain ⟨-, h⟩ | ⟨a, rest, -, h⟩ := hostStep_cases s
  · rwa [h]
  · rw [h]
    exact hostAct_stateInv (s := { s with hostActs := rest }) hs a

/-- Settles O13: each agent's turn keeps the invariant, and taking the scheduling draw does too. -/
theorem everyStepKeepsTheInvariant : Obligations.EveryStepKeepsTheInvariant := by
  intro s t hs h
  have hs' : StateInv (s.withEnv s.env.takeAgent) := hs
  obtain ⟨c, -, hp⟩ | ⟨-, he⟩ | ⟨-, rfl⟩ | ⟨-, rfl⟩ := step_cases h
  · exact portStep_stateInv hs' hp
  · exact engineStep_stateInv hs' he
  · exact seqStep_stateInv hs'
  · exact hostStep_stateInv hs'

/-- Settles O12: the machine starts with admissible parameters, and with any such reset meets the invariant. -/
theorem resetMeetsTheInvariant : Obligations.ResetMeetsTheInvariant :=
  stateInv_atReset Config.params_wf _

end Sys2Proof.Machine

/-!
PROOFS. 10_state.md: what the agents leave alone. The log of the frame in progress, the FSM's diagram, the sensor, the
other context.
-/
namespace Sys2Proof.Machine

/-! ### The log of the frame in progress -/

theorem CaptureLogInv.of_waiting {s : State} (h : s.eng = .waiting) : CaptureLogInv s := by
  simp [CaptureLogInv, h]

/-- Leaving the log alone and the engine as it is, or stopping it, keeps the log of the frame in progress. -/
theorem CaptureLogInv.of_kept {s t : State} (h : CaptureLogInv s) (heng : t.eng = s.eng ∨ t.eng = .waiting)
    (hlog : t.memLog = s.memLog) : CaptureLogInv t := by
  obtain heng | hwaiting := heng
  · unfold CaptureLogInv
    rwa [heng, hlog]
  · exact .of_waiting hwaiting

theorem writeCtrl_eng_cases (rx pwr : Bool) (s : State) :
    (writeCtrl rx pwr s).eng = s.eng ∨ (writeCtrl rx pwr s).eng = .waiting := by
  rw [writeCtrl_eng]
  split
  · exact .inr rfl
  · exact .inl rfl

theorem writeCtrlReg_eng_cases (o : CtrlReg) (d : Word) (s : State) :
    (writeCtrlReg o d s).eng = s.eng ∨ (writeCtrlReg o d s).eng = .waiting := by
  cases o with
  | ctrl => exact writeCtrl_eng_cases ..
  | irqMask | framePtr => exact .inl rfl
  | irqStatus => exact .inl (by rw [writeCtrlReg_irqStatus])

/-- No command starts a frame or moves one on (R150 to R153). -/
theorem CommandEffect.eng_cases {s u : State} {i : Instr} (h : CommandEffect s i u) :
    u.eng = s.eng ∨ u.eng = .waiting := by
  cases h with
  | regWr o d => exact writeCtrlReg_eng_cases o d s
  | enable | disable | enableRx | disableRx => exact writeCtrl_eng_cases ..
  | arm b => exact .inr (armAccepted_eng b s)
  | harvest n => exact .inr (harvestAccepted_eng n s)
  | _ => exact .inl rfl

theorem exec_eng_cases {i : Instr} {s t : State} (h : exec i s = .next t) : t.eng = s.eng ∨ t.eng = .waiting := by
  obtain ⟨u, code, data, heffect, rfl⟩ | ⟨τ, e, -, rfl⟩ | ⟨-, -, rfl⟩ := exec_cases h
  · exact heffect.eng_cases
  · exact .inl rfl
  · exact .inl rfl

theorem exec_captureLogInv {i : Instr} {s t : State} (hs : CaptureLogInv s) (h : exec i s = .next t) :
    CaptureLogInv t :=
  hs.of_kept (exec_eng_cases h) (exec_memLog h)

theorem portStep_captureLogInv {c : Ctx} {s t : State} (hs : CaptureLogInv s) (h : portStep c s = .next t) :
    CaptureLogInv t := by
  obtain ⟨τ, -, hrun⟩ | ⟨-, rfl⟩ | ⟨-, -, rfl⟩ | ⟨w, rest, -, -, hrun⟩ := portStep_cases h
  · exact exec_captureLogInv (s := asCtx c s) hs hrun
  · exact hs
  · exact hs
  · obtain ⟨i, -, hi⟩ | ⟨e, -, rfl⟩ := runWord_cases hrun
    · exact exec_captureLogInv (s := issue c rest s) hs hi
    · exact hs

/-- PIXEL appends the address of pixel n to a log that ends with those of pixels 0 to n-1 (R152). -/
theorem CaptureLogInv.enginePixel {s : State} (h : CaptureLogInv s) {base : Word} {n : Nat}
    (heng : s.eng = .capturing base n) : CaptureLogInv (enginePixel base n s) := by
  simp only [CaptureLogInv, heng] at h
  obtain ⟨before, hlog⟩ := h
  refine ⟨before, ?_⟩
  simp [Machine.enginePixel, hlog, List.range_succ]

theorem engineStep_captureLogInv {s t : State} (hs : CaptureLogInv s) (h : engineStep s = .next t) :
    CaptureLogInv t := by
  obtain ⟨-, -, -, rfl⟩ | ⟨base, n, heng, -, rfl⟩ | ⟨base, -, rfl⟩ | rfl := engineStep_cases h
  · exact ⟨s.memLog.map MemEntry.addr, by simp⟩
  · exact hs.enginePixel heng
  · exact .of_waiting rfl
  · exact hs

/-! ### What the sequencer leaves alone -/

theorem seqFinish_block (code : Code) (id : Byte) (s : State) :
    (seqFinish code id s).eng = s.eng ∧ (seqFinish code id s).fsm = s.fsm := by
  unfold seqFinish
  dsimp only
  split <;> exact ⟨rfl, rfl⟩

theorem seqAdvance_block (txns : List Txn) (k : Nat) (x : Half) (s : State) :
    (seqAdvance txns k x s).eng = s.eng ∧ (seqAdvance txns k x s).fsm = s.fsm := by
  unfold seqAdvance
  split
  · exact seqFinish_block ..
  · exact ⟨rfl, rfl⟩

/-- The sequencer moves neither the engine nor the FSM (R190). -/
theorem seqStep_block (s : State) : (seqStep s).eng = s.eng ∧ (seqStep s).fsm = s.fsm := by
  obtain ⟨txns, k, rmw, y, -, -, hstep⟩ | hstep := seqStep_cases s
  · rw [hstep]
    obtain ⟨sr, log, e, ⟨x, hadvance⟩ | hfinish⟩ := seqTransact_cases txns k rmw y s
    · rw [hadvance]
      exact seqAdvance_block txns k x _
    · rw [hfinish]
      exact seqFinish_block ..
  · rw [hstep]
    exact ⟨rfl, rfl⟩

theorem seqStep_captureLogInv {s : State} (hs : CaptureLogInv s) : CaptureLogInv (seqStep s) := by
  obtain ⟨heng, -⟩ := seqStep_block s
  exact hs.of_kept (.inl heng) (seqStep_memLog s)

theorem hostStep_captureLogInv {s : State} (hs : CaptureLogInv s) : CaptureLogInv (hostStep s) := by
  obtain ⟨-, h⟩ | ⟨a, rest, -, h⟩ := hostStep_cases s
  · rwa [h]
  · rw [h]
    cases a with
    | reset => exact .of_waiting rfl
    | memWrite | memRead => exact hs

/-- Settles O14: only PIXEL logs a write, and it logs the next pixel; every other turn keeps the log and the frame in
progress, or ends or starts one. -/
theorem framePixelsAreLoggedInOrder : Obligations.FramePixelsAreLoggedInOrder := by
  intro s t hs h
  have hs' : CaptureLogInv (s.withEnv s.env.takeAgent) := hs
  obtain ⟨c, -, hp⟩ | ⟨-, he⟩ | ⟨-, rfl⟩ | ⟨-, rfl⟩ := step_cases h
  · exact portStep_captureLogInv hs' hp
  · exact engineStep_captureLogInv hs' he
  · exact seqStep_captureLogInv hs'
  · exact hostStep_captureLogInv hs'

/-! ### The FSM's diagram -/

/-- The commands that move the FSM, and between which states (R130). -/
theorem CommandEffect.fsm_cases {s u : State} {i : Instr} (h : CommandEffect s i u) :
    u.fsm = s.fsm ∨
    ((∃ b, i = .arm b) ∧ s.fsm ≠ .draining ∧ u.fsm = .armed) ∨
    ((∃ n, i = .harvest n) ∧ s.fsm = .draining ∧ u.fsm = .armed) ∨
    (i = .disable ∧ u.fsm = .idle) := by
  cases h with
  | regWr o d => exact .inl (by rw [writeCtrlReg_frame])
  | disable => exact .inr (.inr (.inr ⟨rfl, rfl⟩))
  | arm b accepted => exact .inr (.inl ⟨⟨b, rfl⟩, fsm_ne_draining_of_armAccepted accepted, rfl⟩)
  | harvest n accepted => exact .inr (.inr (.inl ⟨⟨n, rfl⟩, draining_of_harvestAccepted accepted, rfl⟩))
  | _ => exact .inl rfl

/-- The engine moves the FSM by COMPLETE only (R154). -/
theorem engineStep_fsm_cases {s t : State} (h : engineStep s = .next t) :
    t.fsm = s.fsm ∨ (s.fsm = .armed ∧ t.fsm = .draining ∧ ∃ base, s.eng = .capturing base framePixels) := by
  obtain ⟨-, -, -, rfl⟩ | ⟨base, n, -, -, rfl⟩ | ⟨base, heng, rfl⟩ | rfl := engineStep_cases h
  · exact .inl rfl
  · exact .inl rfl
  · obtain hkept | ⟨hold, hnew⟩ := engineComplete_fsm_cases s
    · exact .inl hkept
    · exact .inr ⟨hold, hnew, base, heng⟩
  · exact .inl rfl

/-- Settles O18: a held command leaves the FSM alone, and an answered one moves it as its effect says. -/
theorem fsmMovesOnlyByTheDiagram : Obligations.FsmMovesOnlyByTheDiagram := by
  refine ⟨fun i s t h => ?_, fun s t h => engineStep_fsm_cases h, fun s => (seqStep_block s).2, fun s a => ?_⟩
  · obtain ⟨u, code, data, heffect, rfl⟩ | ⟨τ, e, -, rfl⟩ | ⟨-, -, rfl⟩ := exec_cases h
    · exact heffect.fsm_cases
    · exact .inl rfl
    · exact .inl rfl
  · cases a with
    | reset => exact .inr ⟨rfl, rfl⟩
    | memWrite | memRead => exact .inl rfl

/-! ### The sensor -/

/-- What a command other than SREG_WR and SREG_RMW leaves of the sensor (R39, R166). -/
theorem CommandEffect.sensor_kept {s u : State} {i : Instr} (h : CommandEffect s i u)
    (hwr : ∀ id v, i ≠ .sregWr id v) (hrmw : ∀ id a b, i ≠ .sregRmw id a b) :
    u.sr = s.sr ∧ ((∀ id, i ≠ .sregRd id) → u.busLog = s.busLog) := by
  cases h with
  | regWr o d =>
    rw [writeCtrlReg_frame]
    exact ⟨rfl, fun _ => rfl⟩
  | sregWr id v => exact absurd rfl (hwr id v)
  | sregRmw id a b => exact absurd rfl (hrmw id a b)
  | sregRd id => exact ⟨rfl, fun hrd => absurd rfl (hrd id)⟩
  | _ => exact ⟨rfl, fun _ => rfl⟩

theorem engineStep_sensor_kept {s t : State} (h : engineStep s = .next t) : t.sr = s.sr ∧ t.busLog = s.busLog := by
  obtain ⟨-, -, -, rfl⟩ | ⟨base, n, -, -, rfl⟩ | ⟨base, -, rfl⟩ | rfl := engineStep_cases h <;> exact ⟨rfl, rfl⟩

/-- Settles O21: only the SREG commands' effects hold bus traffic, and a held command makes none. -/
theorem onlyBusCommandsReachTheSensor : Obligations.OnlyBusCommandsReachTheSensor := by
  refine ⟨fun i s t h hwr hrmw => ?_, fun s t h => engineStep_sensor_kept h⟩
  obtain ⟨u, code, data, heffect, rfl⟩ | ⟨τ, e, -, rfl⟩ | ⟨-, -, rfl⟩ := exec_cases h
  · exact heffect.sensor_kept hwr hrmw
  · exact ⟨rfl, fun _ => rfl⟩
  · exact ⟨rfl, fun _ => rfl⟩

/-! ### The other context -/

/-- An answer or a hold writes the slot and the responses of the issuing context only (R210, R226). -/
theorem exec_other_context {i : Instr} {s t : State} (h : exec i s = .next t) {c : Ctx} (hc : c ≠ s.ctx) :
    t.slot.get c = s.slot.get c ∧ t.responses.get c = s.responses.get c := by
  obtain ⟨u, code, data, heffect, rfl⟩ | ⟨τ, e, -, rfl⟩ | ⟨-, -, rfl⟩ := exec_cases h
  · obtain ⟨hslot, hresponses, hctx⟩ := heffect.port_kept
    rw [respond_slot, respond_responses, hslot, hresponses, hctx]
    exact ⟨PerCtx.get_set_other _ hc _, PerCtx.get_set_other _ hc _⟩
  · exact ⟨PerCtx.get_set_other _ hc _, rfl⟩
  · exact ⟨PerCtx.get_set_other _ hc _, rfl⟩

/-- Settles O24: a command's answer or hold is its own context's, and it keeps the surroundings. -/
theorem commandsTouchOnlyTheirOwnContext : Obligations.CommandsTouchOnlyTheirOwnContext := by
  intro i s t h
  have hkept := exec_surroundings h
  simp only [State.surroundings, Surroundings.mk.injEq] at hkept
  obtain ⟨-, -, -, hctx, hstream, hacts, hreads⟩ := hkept
  exact ⟨fun c hc => exec_other_context h hc, hctx, hstream, hacts, hreads⟩

end Sys2Proof.Machine

/-!
PROOFS. 10_state.md: steps and transactions, exactly. The agents' turns, the reset values, REG_RD's bits, and the sensor
register commands and the sequencer's transactions with each outcome of the bus.
-/
namespace Sys2Proof.Machine

/-! ### The agents' turns -/

theorem step_of_nextAgent {s : State} {a : Agent} (h : s.nextAgent = a) :
    step s = agentStep a { s with env := s.env.takeAgent } := by
  subst h
  rfl

/-- Settles O6: the port's turn, its slot empty and its stream not. -/
theorem stepRunsTheDecodedCommand : Obligations.StepRunsTheDecodedCommand := by
  intro s c w rest i hagent hslot hstream hdecode
  rw [step_of_nextAgent hagent]
  simp only [agentStep, portStep, hslot, hstream, runWord, hdecode]
  rfl

theorem seqStep_past_list {s : State} {txns : List Txn} {k : Nat} {rmw : Half} (hseq : s.seq = .running txns k rmw)
    (hk : txns.length ≤ k) : seqStep s = s := by
  simp [seqStep, hseq, hk]

theorem engineStep_past_last {s : State} {base : Word} {n : Nat} (heng : s.eng = .capturing base n)
    (hn : framePixels < n) : engineStep s = .next s := by
  simp [engineStep, heng, show ¬ n < framePixels by omega, show n ≠ framePixels by omega]

/-- Settles O9: each turn is its agent's step, and one with no enabled step leaves the state it is given. -/
theorem otherAgentsTakeTheirTurns : Obligations.OtherAgentsTakeTheirTurns := by
  intro s
  refine ⟨step_of_nextAgent, step_of_nextAgent, fun hagent hseq => ?_, fun txns k rmw hagent hseq hk => ?_,
    fun base n hagent heng hn => ?_, fun a rest hagent hacts => ?_, fun hagent hacts => ?_⟩
  all_goals
    rw [step_of_nextAgent hagent]
    unfold agentStep
    dsimp only
  · simp only [seqStep, hseq]
  · exact congrArg Host.Outcome.next (seqStep_past_list hseq hk)
  · exact engineStep_past_last heng hn
  · simp only [hostStep, hacts]
  · simp only [hostStep, hacts]

/-! ### Reset -/

theorem Options.reset_get : ∀ i : Byte, i ≤ 16#8 → Options.reset.get i = some 0#32 := by
  decide

/-- Settles O10: the values are the reset state's own fields; the machine starts with its own parameters and a drawn FP. -/
theorem resetLeavesTheStatedValues : Obligations.ResetLeavesTheStatedValues := by
  refine ⟨fun p fp => ?_, Config.params, Config.freeWord 0, rfl⟩
  have hslot (c : Ctx) : (State.atReset p fp).slot.get c = none := by cases c <;> rfl
  exact ⟨rfl, rfl, rfl, rfl, rfl, rfl, rfl, rfl, rfl, rfl, rfl, rfl, rfl, Options.reset_get, hslot, rfl, rfl,
    fun _ => rfl⟩

/-! ### REG_RD -/

/-- Below a word's upper bits other bits are put: the word's bits stay in their places. -/
theorem getLsbD_upper_append {l n m k : Nat} (hl : l = n + m) (w : BitVec l) (low : BitVec m) (hk : m ≤ k) :
    (w.extractLsb' m n ++ low).getLsbD k = w.getLsbD k := by
  rw [BitVec.getLsbD_append, BitVec.getLsbD_extractLsb', if_neg (by omega), Nat.add_sub_of_le hk]
  by_cases h : k - m < n
  · simp [h]
  · simp [h, BitVec.getLsbD_of_ge w k (by omega)]

/-- The defined bits of CTRL stand under 30 drawn ones (R25, R28). -/
theorem ctrlRegValue_ctrl_bits (s : State) :
    (ctrlRegValue .ctrl s).getLsbD 0 = s.rx ∧ (ctrlRegValue .ctrl s).getLsbD 1 = s.pwr ∧
      ∀ k, 2 ≤ k → (ctrlRegValue .ctrl s).getLsbD k = s.nextWord.getLsbD k := by
  unfold ctrlRegValue
  dsimp only
  refine ⟨?_, ?_, fun k hk => ?_⟩
  · rw [BitVec.getLsbD_append]
    simp
  · rw [BitVec.getLsbD_append, BitVec.getLsbD_append]
    simp
  · rw [BitVec.append_assoc, BitVec.getLsbD_cast]
    exact getLsbD_upper_append (by decide) s.nextWord _ hk

/-- One flag under 31 drawn bits (R26, R27, R28). -/
theorem flagWord_bits (w : Word) (b : Bool) :
    (w.extractLsb' 1 31 ++ BitVec.ofBool b).getLsbD 0 = b ∧
      ∀ k, 1 ≤ k → (w.extractLsb' 1 31 ++ BitVec.ofBool b).getLsbD k = w.getLsbD k := by
  refine ⟨?_, fun _ hk => getLsbD_upper_append (by decide) w _ hk⟩
  rw [BitVec.getLsbD_append]
  simp

/-- Settles O27: the answer is the register's value, its defined bits under drawn ones; FRAME_PTR takes no draw. -/
theorem regRdReturnsEachRegister : Obligations.RegRdReturnsEachRegister := by
  intro s
  exact ⟨⟨_, rfl, ctrlRegValue_ctrl_bits s⟩, ⟨_, rfl, flagWord_bits s.nextWord s.ie⟩,
    ⟨_, rfl, flagWord_bits s.nextWord s.pend⟩, rfl⟩

/-! ### SREG_WR -/

theorem execSregWr_of_running {s : State} (hseq : s.seq ≠ .sIdle) (id : Byte) (v : Half) :
    execSregWr id v s = .next (respond .protocolViolation 0#32 s) := by
  unfold execSregWr
  rw [if_pos ((Sequencer.isRunning_eq_true_iff _).2 hseq)]

theorem execSregWr_of_sIdle {s : State} (hseq : s.seq = .sIdle) (id : Byte) (v : Half) :
    execSregWr id v s = .next
      (if (busWrite id v s).1 then respond .ok 0#32 (busWrite id v s).2
      else respond .busTransferError (zextWord id) (busWrite id v s).2) := by
  unfold execSregWr
  rw [if_neg (by simp [hseq])]

/-- Settles O47: refused, or one write with each outcome of the bus. -/
theorem sregWrMakesOneWrite : Obligations.SregWrMakesOneWrite := by
  intro id v s
  refine ⟨fun hseq => execSregWr_of_running hseq id v, fun hseq hok => ?_, fun hseq hfail => ⟨_, rfl, ?_⟩, rfl⟩
  all_goals refine (execSregWr_of_sIdle hseq id v).trans ?_
  · rw [busWrite_ok hok]
    rfl
  · rw [busWrite_fail_withSensor hfail]
    rfl

/-! ### SREG_RMW -/

theorem execSregRmw_refused {s : State} (h : s.seq ≠ .sIdle ∨ s.fsm ≠ .idle) (id : Byte) (set clear : Half) :
    execSregRmw id set clear s = .next (respond .protocolViolation 0#32 s) := by
  unfold execSregRmw
  rw [if_pos (by simpa using h)]

/-- With a failed read SREG_RMW ends there (R167). -/
theorem execSregRmw_of_failed_read {s s1 : State} (hseq : s.seq = .sIdle) (hfsm : s.fsm = .idle) {id : Byte}
    (hread : busRead id s = (none, s1)) (set clear : Half) :
    execSregRmw id set clear s = .next (respond .configurationError (zextWord id) s1) := by
  unfold execSregRmw
  rw [if_neg (by simp [hseq, hfsm]), hread]

/-- With the value read, SREG_RMW is one write (R167). -/
theorem execSregRmw_of_read {s s1 : State} (hseq : s.seq = .sIdle) (hfsm : s.fsm = .idle) {id : Byte} {v : Half}
    (hread : busRead id s = (some v, s1)) (set clear : Half) :
    execSregRmw id set clear s = .next
      (if (busWrite id (rmwValue v set clear) s1).1 then
        respond .ok (zextWord (rmwValue v set clear)) (busWrite id (rmwValue v set clear) s1).2
      else respond .busTransferError (zextWord id) (busWrite id (rmwValue v set clear) s1).2) := by
  unfold execSregRmw
  rw [if_neg (by simp [hseq, hfsm]), hread]

/-- Settles O49: refused, ended by a failed read, or the write of the value read, with each outcome of the bus. -/
theorem sregRmwReadsThenWrites : Obligations.SregRmwReadsThenWrites := by
  intro id a c s
  refine ⟨fun hrefused => execSregRmw_refused hrefused id a c, fun hseq hfsm hfail => ⟨_, rfl, ?_⟩,
    fun v w s1 hseq hfsm hok hmodel hw => ?_⟩
  · exact execSregRmw_of_failed_read hseq hfsm (busRead_fail hfail) a c
  · have hread : busRead id s = (some v, s1) ∧ s1.sr = s.sr := by
      obtain ⟨hstored, rfl, rfl⟩ | ⟨horacle, rfl, rfl⟩ := hmodel
      · exact ⟨busRead_stored hok hstored, rfl⟩
      · exact ⟨busRead_oracle hok horacle, rfl⟩
    obtain ⟨hread, hsr⟩ := hread
    obtain rfl : w = rmwValue v a c := hw
    rw [← hsr]
    refine ⟨fun hok' => ?_, fun hfail' => ⟨_, rfl, ?_⟩⟩
    all_goals refine (execSregRmw_of_read hseq hfsm hread a c).trans ?_
    · rw [busWrite_ok hok']
      rfl
    · rw [busWrite_fail_withSensor hfail']
      rfl

/-! ### The sequencer's transactions -/

theorem seqStep_of_getElem? {s : State} {txns : List Txn} {k : Nat} {rmw : Half} {y : Txn}
    (hseq : s.seq = .running txns k rmw) (hy : txns[k]? = some y) : seqStep s = seqTransact txns k rmw y s := by
  simp only [seqStep, hseq, hy]

theorem HoldsConfigure.withSensor {s : State} {c : Ctx} (hc : HoldsConfigure s c) (sr : Vector Half 256)
    (log : List BusEntry) (e : Env) : HoldsConfigure (s.withSensor sr log e) c := hc

section
variable {s : State} {c : Ctx} (hc : HoldsConfigure s c) (txns : List Txn) (k : Nat) (rmw : Half) (id : Byte)
include hc

theorem seqTransact_w_ok (v : Half) (hok : s.nextBusOk = true) :
    seqTransact txns k rmw (.w id v) s = advanced c txns k rmw
      (s.withSensor (s.sr.set id.toNat v id.isLt) (s.busLog ++ [⟨.write, id, v, true⟩]) s.env.takeBusOk) := by
  rw [← seqAdvance_of_holds (hc.withSensor ..)]
  simp only [seqTransact, busWrite_ok hok]
  rfl

theorem seqTransact_w_fail (v : Half) (hfail : s.nextBusOk = false) :
    seqTransact txns k rmw (.w id v) s = finished c .busTransferError id
      (s.withSensor (s.sr.set id.toNat (s.withEnv s.env.takeBusOk).nextSensorVal id.isLt)
        (s.busLog ++ [⟨.write, id, v, false⟩]) s.env.takeBusOk.takeSensorVal) := by
  rw [← seqFinish_of_holds (hc.withSensor ..)]
  simp only [seqTransact, busWrite_fail_withSensor hfail]
  rfl

theorem seqTransact_rr_stored (hok : s.nextBusOk = true) (hmodel : s.params.readModel = .stored) :
    seqTransact txns k rmw (.rr id) s = advanced c txns k (s.readSr id)
      (s.withSensor s.sr (s.busLog ++ [⟨.read, id, s.readSr id, true⟩]) s.env.takeBusOk) := by
  rw [← seqAdvance_of_holds (hc.withSensor ..)]
  simp only [seqTransact, busRead_stored hok hmodel]
  rfl

theorem seqTransact_rr_oracle (hok : s.nextBusOk = true) (hmodel : s.params.readModel = .oracle) :
    seqTransact txns k rmw (.rr id) s = advanced c txns k (s.withEnv s.env.takeBusOk).nextSensorVal
      (s.withSensor s.sr (s.busLog ++ [⟨.read, id, (s.withEnv s.env.takeBusOk).nextSensorVal, true⟩])
        s.env.takeBusOk.takeSensorVal) := by
  rw [← seqAdvance_of_holds (hc.withSensor ..)]
  simp only [seqTransact, busRead_oracle hok hmodel]
  rfl

theorem seqTransact_rr_fail (hfail : s.nextBusOk = false) :
    seqTransact txns k rmw (.rr id) s = finished c .configurationError id
      (s.withSensor s.sr (s.busLog ++ [⟨.read, id, (s.withEnv s.env.takeBusOk).nextSensorVal, false⟩])
        s.env.takeBusOk.takeSensorVal) := by
  rw [← seqFinish_of_holds (hc.withSensor ..)]
  simp only [seqTransact, busRead_fail hfail]
  rfl

end

/-- A write half is the write of its function's value (R181, R190). -/
theorem seqTransact_rw (txns : List Txn) (k : Nat) (rmw : Half) (id : Byte) (set clear : Half) (s : State) :
    seqTransact txns k rmw (.rw id set clear) s = seqTransact txns k rmw (.w id (rmwValue rmw set clear)) s := rfl

/-- Settles O55: the transaction by its kind, with each outcome of the bus and each read model. -/
theorem sequencerMakesItsTransaction : Obligations.SequencerMakesItsTransaction := by
  intro s txns k rmw c hseq hc
  have hstep {y : Txn} (hy : txns[k]? = some y) : seqStep s = seqTransact txns k rmw y s := seqStep_of_getElem? hseq hy
  refine ⟨fun id v hy hok => ?_, fun id a b hy hok => ?_, fun id hy hok hmodel => ?_, fun id hy hok hmodel => ?_,
    fun id v hy hfail => ⟨_, rfl, ?_⟩, fun id a b hy hfail => ⟨_, rfl, ?_⟩, fun id hy hfail => ⟨_, rfl, ?_⟩⟩
  · exact (hstep hy).trans (seqTransact_w_ok hc txns k rmw id v hok)
  · exact (hstep hy).trans (seqTransact_w_ok hc txns k rmw id (rmwValue rmw a b) hok)
  · exact (hstep hy).trans (seqTransact_rr_stored hc txns k rmw id hok hmodel)
  · exact ⟨_, rfl, (hstep hy).trans (seqTransact_rr_oracle hc txns k rmw id hok hmodel)⟩
  · have hfinished := (hstep hy).trans (seqTransact_w_fail hc txns k rmw id v hfail)
    exact ⟨hfinished, by rw [hfinished]; rfl⟩
  · have hfinished := (hstep hy).trans (seqTransact_w_fail hc txns k rmw id (rmwValue rmw a b) hfail)
    exact ⟨hfinished, by rw [hfinished]; rfl⟩
  · have hfinished := (hstep hy).trans (seqTransact_rr_fail hc txns k rmw id hfail)
    exact ⟨hfinished, by rw [hfinished]; rfl⟩

end Sys2Proof.Machine

/-!
PROOFS. 20_memory.md: the content of frame memory never affects the block (R71, R158), and the engine's pixels in frame
memory, one by one and as a whole frame (R74, R75, R152).
-/
namespace Sys2Proof.Machine

/-! ### The same state over another frame memory -/

/-- The state with another frame memory. -/
def State.withMem (s : State) (m : Memory) : State := { s with mem := m }

section
variable (s : State) (m : Memory)

@[simp] theorem State.withMem_fp : (s.withMem m).fp = s.fp := rfl
@[simp] theorem State.withMem_eng : (s.withMem m).eng = s.eng := rfl
@[simp] theorem State.withMem_seq : (s.withMem m).seq = s.seq := rfl
@[simp] theorem State.withMem_last : (s.withMem m).last = s.last := rfl
@[simp] theorem State.withMem_params : (s.withMem m).params = s.params := rfl
@[simp] theorem State.withMem_opt : (s.withMem m).opt = s.opt := rfl
@[simp] theorem State.withMem_slot : (s.withMem m).slot = s.slot := rfl
@[simp] theorem State.withMem_stream : (s.withMem m).stream = s.stream := rfl
@[simp] theorem State.withMem_hostActs : (s.withMem m).hostActs = s.hostActs := rfl

theorem State.ite_withMem (c : Prop) [Decidable c] (t u : State) :
    (if c then t else u).withMem m = if c then t.withMem m else u.withMem m :=
  apply_ite (State.withMem · m) c t u

@[simp] theorem startEnabled_withMem : (s.withMem m).startEnabled = s.startEnabled := rfl
@[simp] theorem configureOwner_withMem : configureOwner (s.withMem m) = configureOwner s := rfl

@[simp] theorem respond_withMem (code : Code) (data : Word) :
    respond code data (s.withMem m) = (respond code data s).withMem m := rfl

@[simp] theorem afterCtrlRegRead_withMem (o : CtrlReg) :
    afterCtrlRegRead o (s.withMem m) = (afterCtrlRegRead o s).withMem m := by
  cases o <;> rfl

@[simp] theorem ctrlRegValue_withMem (o : CtrlReg) : ctrlRegValue o (s.withMem m) = ctrlRegValue o s := by
  cases o <;> rfl

@[simp] theorem afterDiag_withMem (i : Byte) : afterDiag i (s.withMem m) = (afterDiag i s).withMem m := by
  unfold afterDiag
  split <;> simp

@[simp] theorem diagValue_withMem (i : Byte) : diagValue i (s.withMem m) = diagValue i s := rfl

@[simp] theorem writeCtrlReg_withMem (o : CtrlReg) (d : Word) :
    writeCtrlReg o d (s.withMem m) = (writeCtrlReg o d s).withMem m := by
  cases o with
  | ctrl | irqMask | framePtr => rfl
  | irqStatus => rw [writeCtrlReg_irqStatus, writeCtrlReg_irqStatus]; rfl

/-- A bus write draws the same outcome whatever memory holds, and leaves memory alone (R158, R160). -/
@[simp] theorem busWrite_withMem (id : Byte) (v : Half) :
    busWrite id v (s.withMem m) = ((busWrite id v s).1, (busWrite id v s).2.withMem m) := by
  cases hok : s.nextBusOk with
  | true => rw [busWrite_ok hok, busWrite_ok (s := s.withMem m) hok]; rfl
  | false => rw [busWrite_fail hok, busWrite_fail (s := s.withMem m) hok]; rfl

/-- A bus read returns the same value whatever memory holds, and leaves memory alone (R158, R161). -/
@[simp] theorem busRead_withMem (id : Byte) :
    busRead id (s.withMem m) = ((busRead id s).1, (busRead id s).2.withMem m) := by
  cases hok : s.nextBusOk with
  | false => rw [busRead_fail hok, busRead_fail (s := s.withMem m) hok]; rfl
  | true =>
    cases hmodel : s.params.readModel with
    | stored => rw [busRead_stored hok hmodel, busRead_stored (s := s.withMem m) hok hmodel]; rfl
    | oracle => rw [busRead_oracle hok hmodel, busRead_oracle (s := s.withMem m) hok hmodel]; rfl

/-! ### Commands over another frame memory -/

/-- Over either memory the turn goes on to a next state, the same one but for the memory, which it keeps. -/
def IgnoresMemory (turn : State → Outcome) : Prop :=
  ∃ t, turn s = .next t ∧ turn (s.withMem m) = .next (t.withMem m)

theorem execArm_withMem (b : Word) : IgnoresMemory s m (execArm b) := by
  refine ⟨_, rfl, ?_⟩
  rw [State.ite_withMem]
  rfl

theorem execHarvest_withMem (n : Word) : IgnoresMemory s m (execHarvest n) := by
  refine ⟨_, rfl, ?_⟩
  rw [State.ite_withMem]
  rfl

theorem execWaitFrame_withMem (τ : Word) : IgnoresMemory s m (execWaitFrame τ) := by
  refine ⟨_, rfl, ?_⟩
  cases hlast : s.last with
  | none | some a =>
    simp only [execWaitFrame, State.withMem_last, hlast, State.ite_withMem]
    rfl

theorem execDiag_withMem (item : Byte) : IgnoresMemory s m (execDiag item) := by
  refine ⟨_, rfl, ?_⟩
  unfold execDiag
  rw [diagValue_withMem]
  cases diagValue item s <;> simp

theorem execSregWr_withMem (id : Byte) (v : Half) : IgnoresMemory s m (execSregWr id v) := by
  refine ⟨_, rfl, ?_⟩
  simp only [execSregWr, busWrite_withMem, State.ite_withMem]
  rfl

theorem execSregRd_withMem (id : Byte) : IgnoresMemory s m (execSregRd id) := by
  refine ⟨_, rfl, ?_⟩
  simp only [execSregRd, busRead_withMem, State.ite_withMem]
  cases (busRead id s).1 <;> rfl

theorem execSregRmw_withMem (id : Byte) (set clear : Half) : IgnoresMemory s m (execSregRmw id set clear) := by
  refine ⟨_, rfl, ?_⟩
  simp only [execSregRmw, busRead_withMem, State.ite_withMem]
  cases (busRead id s).1 with
  | none => rfl
  | some v =>
    simp only [busWrite_withMem, State.ite_withMem]
    rfl

theorem execSetopt_withMem (i : Byte) (x : Word) : IgnoresMemory s m (execSetopt i x) := by
  refine ⟨_, rfl, ?_⟩
  simp only [execSetopt, State.withMem_params]
  cases optWidth s.params i with
  | none => rfl
  | some width =>
    simp only [State.ite_withMem]
    rfl

theorem execGetopt_withMem (i : Byte) : IgnoresMemory s m (execGetopt i) := by
  refine ⟨_, rfl, ?_⟩
  simp only [execGetopt, State.withMem_opt]
  cases s.opt.get i <;> rfl

theorem execConfigure_withMem : IgnoresMemory s m execConfigure := by
  refine ⟨_, rfl, ?_⟩
  rw [State.ite_withMem]
  rfl

/-- No command reads frame memory (R71, R158). -/
theorem exec_withMem (i : Instr) : IgnoresMemory s m (exec i) := by
  cases i with
  | regRd o => exact ⟨_, rfl, by simp [exec, execRegRd]⟩
  | regWr o d => exact ⟨_, rfl, by simp [exec, execRegWr]⟩
  | enable | disable | enableRx | disableRx | setIrqEn | frameReady | setTarget | getTarget | ack =>
    exact ⟨_, rfl, rfl⟩
  | arm b => exact execArm_withMem s m b
  | harvest n => exact execHarvest_withMem s m n
  | waitFrame τ => exact execWaitFrame_withMem s m τ
  | diag item => exact execDiag_withMem s m item
  | sregWr id v => exact execSregWr_withMem s m id v
  | sregRd id => exact execSregRd_withMem s m id
  | sregRmw id set clear => exact execSregRmw_withMem s m id set clear
  | setopt index x => exact execSetopt_withMem s m index x
  | configure => exact execConfigure_withMem s m
  | getopt index => exact execGetopt_withMem s m index

/-! ### The agents' turns over another frame memory -/

/-- What two runs from states that differ in frame memory keep: the same fault, or next states that differ at most in
memory and in what the host's reads returned (R71, R158). -/
def OutcomesAgree : Outcome → Outcome → Prop
  | .next t, .next u => u = { t with mem := u.mem, hostReads := u.hostReads }
  | .fault f, .fault g => f = g
  | _, _ => False

theorem IgnoresMemory.agree {turn : State → Outcome} (h : IgnoresMemory s m turn) :
    OutcomesAgree (turn s) (turn (s.withMem m)) := by
  obtain ⟨t, hs, hm⟩ := h
  rw [hs, hm]
  rfl

theorem runWord_withMem (w : CmdWord) : IgnoresMemory s m (runWord w) := by
  unfold runWord
  cases decode w with
  | ok i => exact exec_withMem s m i
  | error e => exact ⟨_, rfl, rfl⟩

theorem portStep_withMem (c : Ctx) : IgnoresMemory s m (portStep c) := by
  unfold IgnoresMemory portStep
  simp only [State.withMem_slot, State.withMem_stream]
  split
  · exact exec_withMem (asCtx c s) m _
  · exact ⟨s, rfl, rfl⟩
  · split
    · exact ⟨s, rfl, rfl⟩
    · exact runWord_withMem (issue c _ s) m _

/-- START looks at FRAME_PTR only, and faults with it alike (R151). -/
theorem engineStart_withMem : OutcomesAgree (engineStart s) (engineStart (s.withMem m)) := by
  unfold engineStart
  rw [State.withMem_fp]
  cases baseAligned s.fp with
  | false => rfl
  | true => cases baseInRange s.fp <;> rfl

/-- The engine writes pixels without reading what stood in memory (R150 to R154, R158). -/
theorem engineStep_withMem : OutcomesAgree (engineStep s) (engineStep (s.withMem m)) := by
  unfold engineStep
  rw [State.withMem_eng, startEnabled_withMem]
  split
  · split
    · exact engineStart_withMem s m
    · rfl
  · split
    · rfl
    · split <;> rfl

theorem seqFinish_withMem (code : Code) (id : Byte) :
    seqFinish code id (s.withMem m) = (seqFinish code id s).withMem m := by
  unfold seqFinish
  rw [configureOwner_withMem]
  cases configureOwner s <;> rfl

theorem seqAdvance_withMem (txns : List Txn) (k : Nat) (x : Half) :
    seqAdvance txns k x (s.withMem m) = (seqAdvance txns k x s).withMem m := by
  unfold seqAdvance
  rw [State.ite_withMem, seqFinish_withMem]
  rfl

theorem seqTransact_withMem (txns : List Txn) (k : Nat) (rmw : Half) (y : Txn) :
    seqTransact txns k rmw y (s.withMem m) = (seqTransact txns k rmw y s).withMem m := by
  cases y with
  | w id v | rw id set clear =>
    simp only [seqTransact, busWrite_withMem, State.ite_withMem, seqAdvance_withMem, seqFinish_withMem]
  | rr id =>
    simp only [seqTransact, busRead_withMem]
    cases (busRead id s).1 with
    | none => exact seqFinish_withMem ..
    | some v => exact seqAdvance_withMem ..

theorem seqStep_withMem : seqStep (s.withMem m) = (seqStep s).withMem m := by
  unfold seqStep
  simp only [State.withMem_seq]
  split
  · rfl
  · split
    · exact seqTransact_withMem ..
    · rfl

/-- The host reads memory, and keeps what it read to itself (R71, R233). -/
theorem hostStep_withMem : OutcomesAgree (.next (hostStep s)) (.next (hostStep (s.withMem m))) := by
  unfold hostStep
  simp only [State.withMem_hostActs]
  split
  · rfl
  · rename_i a rest _
    cases a <;> rfl

theorem agentStep_withMem (a : Agent) : OutcomesAgree (agentStep a s) (agentStep a (s.withMem m)) := by
  cases a with
  | port c => exact (portStep_withMem s m c).agree
  | engine => exact engineStep_withMem s m
  | sequencer =>
    unfold agentStep
    rw [seqStep_withMem]
    rfl
  | host => exact hostStep_withMem s m

end

/-- Settles O20: the scheduling draw names the same agent over either memory, and each agent's turns agree. -/
theorem frameMemoryNeverAffectsTheBlock : Obligations.FrameMemoryNeverAffectsTheBlock := by
  intro s m
  exact agentStep_withMem (s.withEnv s.env.takeAgent) m s.nextAgent

/-! ### A pixel in frame memory -/

theorem frameBytes_eq : frameBytes = 2 * framePixels := rfl

theorem baseInRange_iff (base : Word) : baseInRange base = true ↔ base.toNat + 153600 ≤ 2 ^ 32 := by
  simp [baseInRange, frameBytes, pixelBytes, framePixels, frameW, frameH, wordBits]

/-- A pixel of a buffer in range lies at base + 2n without wrapping (R76, R152). -/
theorem pixelAddr_toNat {base : Word} {n : Nat} (hn : n < framePixels) (hrange : baseInRange base = true) :
    (pixelAddr base n).toNat = base.toNat + 2 * n ∧ (pixelAddr base n + 1#32).toNat = base.toNat + 2 * n + 1 := by
  rw [baseInRange_iff] at hrange
  have hn' : n < 76800 := hn
  simp only [pixelAddr, BitVec.toNat_add, BitVec.toNat_ofNat]
  omega

theorem pixelToBytes_eq_pair (e : Endian) (p : Half) : ∃ b0 b1, pixelToBytes e p = [b0, b1] := by
  cases e with
  | little | big => exact ⟨_, _, rfl⟩

/-- A MemWrite of two bytes stores the first at the address and the second behind it. -/
theorem Memory.read_writeBytes_pair (m : Memory) (a : Word) (b0 b1 : Byte) :
    (m.writeBytes a [b0, b1]).read a.toNat = some b0 ∧ (m.writeBytes a [b0, b1]).read (a + 1#32).toNat = some b1 := by
  refine ⟨?_, Memory.read_writeBytes m a (bs := [b0, b1]) (k := 1) (by simp) rfl⟩
  simpa using Memory.read_writeBytes m a (bs := [b0, b1]) (k := 0) (by simp) rfl

section
variable {base : Word} {n : Nat} (hn : n < framePixels) (hrange : baseInRange base = true) (s : State)
include hn hrange

/-- PIXEL stores the drawn pixel's two bytes at base + 2n (R75, R152). -/
theorem read_enginePixel :
    [(enginePixel base n s).mem.read (base.toNat + 2 * n), (enginePixel base n s).mem.read (base.toNat + 2 * n + 1)] =
      (pixelToBytes s.params.pixelEndian s.nextPixel).map some := by
  obtain ⟨haddr, haddr'⟩ := pixelAddr_toNat hn hrange
  obtain ⟨b0, b1, hbytes⟩ := pixelToBytes_eq_pair s.params.pixelEndian s.nextPixel
  obtain ⟨h0, h1⟩ := Memory.read_writeBytes_pair s.mem (pixelAddr base n) b0 b1
  rw [← haddr', ← haddr]
  simp only [enginePixel, hbytes, h0, h1, List.map]

/-- PIXEL keeps every byte but the two at base + 2n (R152). -/
theorem read_enginePixel_kept {x : Nat} (h0 : x ≠ base.toNat + 2 * n) (h1 : x ≠ base.toNat + 2 * n + 1) :
    (enginePixel base n s).mem.read x = s.mem.read x := by
  obtain ⟨haddr, haddr'⟩ := pixelAddr_toNat hn hrange
  exact read_enginePixel_other s (by rwa [haddr]) (by rwa [haddr'])

end

theorem engineStep_pixel {s : State} {base : Word} {n : Nat} (heng : s.eng = .capturing base n) (hn : n < framePixels) :
    engineStep s = .next (enginePixel base n s) := by
  simp only [engineStep, heng, if_pos hn]

/-- Settles O42: the engine's step is PIXEL, and the drawn pixel's bytes go to base + 2n in PIXEL_ENDIAN order. -/
theorem pixelWritesItsTwoBytes : Obligations.PixelWritesItsTwoBytes := by
  intro s base n heng hn hbase
  have hrange := (baseInRange_iff base).2 hbase
  refine ⟨_, engineStep_pixel heng hn, rfl, ?_, fun x => read_enginePixel_kept hn hrange s, _, rfl, rfl⟩
  have hbytes := read_enginePixel hn hrange s
  cases hendian : s.params.pixelEndian with
  | little | big => simpa [hendian, pixelToBytes] using hbytes

/-! ### A whole frame -/

/-- The engine's steps one after another: `j` of them to `t`, and then `k` from there. -/
theorem engineRun_add {j : Nat} {s t : State} (h : engineRun j s = .next t) (k : Nat) :
    engineRun (j + k) s = engineRun k t := by
  induction j generalizing s with
  | zero =>
    cases h
    rw [Nat.zero_add]
  | succ j ih =>
    rw [Nat.succ_add]
    simp only [engineRun] at h ⊢
    cases hstep : engineStep s with
    | next u =>
      rw [hstep] at h
      exact ih h
    | fault f | refused r => simp [hstep] at h

theorem engineRun_one (s : State) : engineRun 1 s = engineStep s := by
  unfold engineRun
  cases engineStep s <;> rfl

/-- `t` is `s` with a frame begun at FRAME_PTR and `n` pixels of it written: those drawn from `s` on, in order
(R152). -/
structure FrameBegun (s : State) (n : Nat) (t : State) : Prop where
  kept : t = { s with eng := .capturing s.fp n, mem := t.mem, memLog := t.memLog, env := t.env }
  draws : ∀ k, pixelDraw t k = pixelDraw s (n + k)
  logged : t.memLog = s.memLog ++ (List.range n).map
    (fun k => ⟨pixelAddr s.fp k, pixelToBytes s.params.pixelEndian (pixelDraw s k)⟩)
  stored : ∀ k, k < n → [t.mem.read (s.fp.toNat + 2 * k), t.mem.read (s.fp.toNat + 2 * k + 1)] =
    (pixelToBytes s.params.pixelEndian (pixelDraw s k)).map some
  outside : ∀ x, x < s.fp.toNat ∨ s.fp.toNat + 2 * n ≤ x → t.mem.read x = s.mem.read x

theorem FrameBegun.start (s : State) : FrameBegun s 0 { s with eng := .capturing s.fp 0 } where
  kept := rfl
  draws k := by rw [Nat.zero_add]; rfl
  logged := (List.append_nil _).symm
  stored k hk := absurd hk (Nat.not_lt_zero k)
  outside _ _ := rfl

/-- PIXEL takes one pixel draw. -/
theorem pixelDraw_enginePixel (base : Word) (n : Nat) (s : State) (k : Nat) :
    pixelDraw (enginePixel base n s) k = pixelDraw s (1 + k) := by
  simp [pixelDraw, enginePixel, Env.takePixel, Nat.add_assoc, Nat.add_comm k 1]

section
variable {s t : State} {n : Nat}

theorem FrameBegun.eng (h : FrameBegun s n t) : t.eng = .capturing s.fp n := by
  rw [h.kept]

theorem FrameBegun.params (h : FrameBegun s n t) : t.params = s.params := by
  rw [h.kept]

theorem FrameBegun.nextPixel (h : FrameBegun s n t) : t.nextPixel = pixelDraw s n := h.draws 0

/-- PIXEL writes the next pixel of the frame. -/
theorem FrameBegun.enginePixel (h : FrameBegun s n t) (hn : n < framePixels) (hrange : baseInRange s.fp = true) :
    FrameBegun s (n + 1) (enginePixel s.fp n t) where
  kept := by
    rw [h.kept]
    rfl
  draws k := by rw [pixelDraw_enginePixel, h.draws, Nat.add_assoc]
  logged := by
    rw [List.range_succ, List.map_append, ← List.append_assoc, ← h.logged, List.map_singleton, ← h.nextPixel,
      ← h.params]
    rfl
  stored k hk := by
    obtain hlast | hold := Nat.eq_or_lt_of_le (Nat.le_of_lt_succ hk)
    · rw [hlast, read_enginePixel hn hrange t, h.params, h.nextPixel]
    · rw [read_enginePixel_kept hn hrange t (by omega) (by omega),
        read_enginePixel_kept hn hrange t (by omega) (by omega), h.stored k hold]
  outside x hx := by
    rw [read_enginePixel_kept hn hrange t (by omega) (by omega), h.outside x (by omega)]

end

/-- From START on `n + 1` engine steps write `n` pixels. -/
theorem engineRun_frameBegun {s : State} (hstart : engineStep s = .next { s with eng := .capturing s.fp 0 })
    (hrange : baseInRange s.fp = true) {n : Nat} (hn : n ≤ framePixels) :
    ∃ t, engineRun (n + 1) s = .next t ∧ FrameBegun s n t := by
  induction n with
  | zero => exact ⟨_, (engineRun_one s).trans hstart, .start s⟩
  | succ n ih =>
    obtain ⟨t, hrun, ht⟩ := ih (by omega)
    refine ⟨_, ?_, ht.enginePixel hn hrange⟩
    rw [engineRun_add hrun, engineRun_one, engineStep_pixel ht.eng hn]

/-! ### The host's read of a frame -/

theorem Memory.readBytes_add (m : Memory) (a : Word) (j k : Nat) :
    m.readBytes a (j + k) = m.readBytes a j ++ m.readBytes (a + BitVec.ofNat 32 j) k := by
  induction j generalizing a with
  | zero => simp [Memory.readBytes]
  | succ j ih =>
    rw [Nat.succ_add, Memory.readBytes, ih, Memory.readBytes, List.cons_append, BitVec.add_assoc, ← BitVec.ofNat_add,
      Nat.add_comm 1 j]

/-- A MemRead of whole pixels returns each pixel's two bytes, in index order (R74). -/
theorem Memory.readBytes_pixels (m : Memory) (base : Word) (n : Nat) :
    m.readBytes base (2 * n) = (List.range n).flatMap (fun k => m.readBytes (pixelAddr base k) 2) := by
  induction n with
  | zero => rfl
  | succ n ih =>
    rw [Nat.mul_succ, Memory.readBytes_add, ih, List.range_succ, List.flatMap_append, List.flatMap_singleton, pixelAddr]

/-- The host reads back a pixel's two bytes (R71). -/
theorem Memory.readBytes_pixel {m : Memory} {a : Word} {e : Endian} {p : Half}
    (h : [m.read a.toNat, m.read (a + 1#32).toNat] = (pixelToBytes e p).map some) :
    m.readBytes a 2 = pixelToBytes e p := by
  obtain ⟨b0, b1, hbytes⟩ := pixelToBytes_eq_pair e p
  rw [hbytes] at h ⊢
  obtain ⟨h0, h1⟩ : m.read a.toNat = some b0 ∧ m.read (a + 1#32).toNat = some b1 := by simpa using h
  simp only [Memory.readBytes, Memory.hostByte_of_read h0, Memory.hostByte_of_read h1]

/-- The host reads back the frame's pixels, row-major (R74). -/
theorem FrameBegun.readBytes {s t : State} (h : FrameBegun s framePixels t) (hrange : baseInRange s.fp = true) :
    t.mem.readBytes s.fp frameBytes =
      (List.range framePixels).flatMap (fun k => pixelToBytes s.params.pixelEndian (pixelDraw s k)) := by
  rw [frameBytes_eq, Memory.readBytes_pixels]
  refine List.flatMap_congr fun k hk => Memory.readBytes_pixel ?_
  have hk' := List.mem_range.1 hk
  obtain ⟨haddr, haddr'⟩ := pixelAddr_toNat hk' hrange
  rw [haddr, haddr', h.stored k hk']

theorem engineStep_start {s : State} (hstart : s.startEnabled = true) (halign : baseAligned s.fp = true)
    (hrange : baseInRange s.fp = true) : engineStep s = .next { s with eng := .capturing s.fp 0 } := by
  have heng : s.eng = .waiting := by
    obtain ⟨hidle, -⟩ := (startEnabled_eq_true_iff s).1 hstart
    cases h : s.eng with
    | waiting => rfl
    | capturing base n => simp [h, Engine.isCapturing] at hidle
  simp [engineStep, heng, hstart, engineStart, halign, hrange]

theorem engineStep_complete {s : State} {base : Word} (heng : s.eng = .capturing base framePixels) :
    engineStep s = .next (engineComplete s) := by
  simp [engineStep, heng]

/-- Settles O44: START, one PIXEL for each index, and COMPLETE, which leaves memory and its log as the last PIXEL
did. -/
theorem engineDeliversAWholeFrame : Obligations.EngineDeliversAWholeFrame := by
  intro s hstart halign hrange
  obtain ⟨t, hrun, ht⟩ := engineRun_frameBegun (engineStep_start hstart halign hrange) hrange (Nat.le_refl _)
  refine ⟨engineComplete t, ?_, ?_, ht.logged, ht.stored, ht.outside, ht.readBytes hrange⟩
  · rw [engineRun_add hrun 1, engineRun_one, engineStep_complete ht.eng]
  · rw [ht.kept]
    rfl

end Sys2Proof.Machine

/-!
PROOFS. 30_encoding.md: the command words. A word is met through its four fields (R91): a row's match is one condition a
field. Three facts carry the statements: a command's word decodes to it if it is in range (`decode_encode`), a word that
decodes selects its command's row (`row_matchesWord_of_decode`), and a word that selects a row is some command's word
(`encode_withOperandsOf`).
-/
namespace Sys2Proof

/-! ### A row's match, field by field -/

theorem CmdWord.exists_fields (w : CmdWord) : ∃ o f v a, w = CmdWord.ofFields o f v a :=
  ⟨_, _, _, _, w.ofFields_fields.symm⟩

theorem CmdWord.ofFields_inj {o o' f f' : Byte} {v v' : Half} {a a' : Word} :
    CmdWord.ofFields o f v a = CmdWord.ofFields o' f' v' a' ↔ o = o' ∧ f = f' ∧ v = v' ∧ a = a' := by
  constructor
  · intro h
    exact ⟨by simpa using congrArg CmdWord.opc h, by simpa using congrArg CmdWord.f8 h,
      by simpa using congrArg CmdWord.v16 h, by simpa using congrArg CmdWord.a32 h⟩
  · rintro ⟨rfl, rfl, rfl, rfl⟩
    rfl

/-- A word selects a row if each of its fields does (R91, R94). -/
theorem Row.matchesWord_ofFields (r : Row) (o f : Byte) (v : Half) (a : Word) :
    r.matchesWord (.ofFields o f v a) = true ↔
      o &&& r.mask.opc = r.pattern.opc ∧ f &&& r.mask.f8 = r.pattern.f8 ∧
        v &&& r.mask.v16 = r.pattern.v16 ∧ a &&& r.mask.a32 = r.pattern.a32 := by
  rw [Row.matchesWord, beq_iff_eq, ← r.mask.ofFields_fields, ← r.pattern.ofFields_fields, CmdWord.and_ofFields,
    CmdWord.ofFields_inj]
  simp only [CmdWord.opc_ofFields, CmdWord.f8_ofFields, CmdWord.v16_ofFields, CmdWord.a32_ofFields]

@[simp] theorem Byte.and_ones (x : Byte) : x &&& 0xFF#8 = x := BitVec.and_allOnes

@[simp] theorem Half.and_ones (x : Half) : x &&& 0xFFFF#16 = x := BitVec.and_allOnes

@[simp] theorem Word.and_ones (x : Word) : x &&& 0xFFFFFFFF#32 = x := BitVec.and_allOnes

/-! ### Operands narrower than their field (R92) -/

/-- F8 with zero above its two low bits is a register's offset. -/
theorem Byte.setWidth_low_two :
    ∀ f : Byte, f &&& 0xFC#8 = 0#8 → (f.extractLsb' 0 2).setWidth 8 = f := by decide

/-- F8 with zero above bit 0 is a flag. -/
theorem Byte.setWidth_low_one :
    ∀ f : Byte, f &&& 0xFE#8 = 0#8 → (BitVec.ofBool (f.getLsbD 0)).setWidth 8 = f := by decide

theorem Word.extractLsb'_high_setWidth (c : Half) : (c.setWidth 32).extractLsb' 16 16 = 0#16 := by
  ext k hk
  simp

theorem Word.extractLsb'_low_setWidth (c : Half) : (c.setWidth 32).extractLsb' 0 16 = c := by
  apply BitVec.eq_of_toNat_eq
  simp [BitVec.extractLsb'_toNat]
  omega

/-- A32 with zero above its low half is that half. -/
theorem Word.setWidth_low_half {a : Word} (h : a.extractLsb' 16 16 = 0#16) :
    (a.extractLsb' 0 16).setWidth 32 = a := by
  have hhigh : a.toNat / 2 ^ 16 % 2 ^ 16 = 0 := by
    simpa [BitVec.extractLsb'_toNat, Nat.shiftRight_eq_div_pow] using congrArg BitVec.toNat h
  apply BitVec.eq_of_toNat_eq
  simp [BitVec.extractLsb'_toNat]
  omega

/-- The row's mask and the decoder's check ask the same of A32's high half. -/
theorem Word.and_high_eq_zero_iff (a : Word) : a &&& 0xFFFF0000#32 = 0#32 ↔ a.extractLsb' 16 16 = 0#16 := by
  have hhigh : (a &&& 0xFFFF0000#32).extractLsb' 16 16 = a.extractLsb' 16 16 :=
    BitVec.extractLsb'_and.trans (Half.and_ones _)
  have hlow : (a &&& 0xFFFF0000#32).extractLsb' 0 16 = 0#16 := BitVec.extractLsb'_and.trans BitVec.and_zero
  constructor
  · intro h
    rw [← hhigh, h]
    rfl
  · intro h
    rw [← Word.setWidth_low_half (hhigh.trans h), hlow]
    rfl

/-! ### The decoder and the encoder -/

theorem decode_ofFields (o f : Byte) (v : Half) (a : Word) :
    decode (.ofFields o f v a) = decodeFields o f v a := by
  simp only [decode, CmdWord.opc_ofFields, CmdWord.f8_ofFields, CmdWord.v16_ofFields, CmdWord.a32_ofFields]

theorem mustBeZero_eq_ok_iff {zero : Bool} {opc : Byte} {i j : Instr} :
    mustBeZero zero opc i = .ok j ↔ zero = true ∧ i = j := by
  cases zero <;> simp [mustBeZero]

theorem checkRange_ok_eq_ok_iff {i j : Instr} : checkRange (.ok i) = .ok j ↔ i = j ∧ i.WellFormed := by
  cases i with
  | diag item =>
    by_cases h : item ≤ maxDiagItem <;> simp [checkRange, Instr.WellFormed, Instr.wellFormed, h]
  | setopt index _ | getopt index =>
    by_cases h : index ≤ maxOptIndex <;> simp [checkRange, Instr.WellFormed, Instr.wellFormed, h]
  | _ => simp [checkRange, Instr.WellFormed, Instr.wellFormed]

theorem checkRange_eq_ok_iff {r : Except DecodeError Instr} {i : Instr} :
    checkRange r = .ok i ↔ r = .ok i ∧ i.WellFormed := by
  cases r with
  | error e => simp [checkRange]
  | ok j =>
    rw [checkRange_ok_eq_ok_iff, Except.ok.injEq]
    exact and_congr_right (by rintro rfl; rfl)

/-- A command's word decodes to the command, if its operands are in range (R92, R95). -/
theorem decode_encode (i : Instr) : decode (encode i) = checkRange (.ok i) := by
  cases i with
  | regRd o | regWr o d => cases o <;> exact decode_ofFields ..
  | setIrqEn b => cases b <;> exact decode_ofFields ..
  | sregRmw id s c =>
    rw [encode, decode_ofFields]
    simp [decodeFields, mustBeZero, checkRange, Word.extractLsb'_high_setWidth, Word.extractLsb'_low_setWidth]
  | _ => exact decode_ofFields ..

/-- A word that decodes selects its command's row: the decoder's must-be-zero bits are the row's (R93, R94). -/
theorem row_matchesWord_of_decode {w : CmdWord} {i : Instr} (h : decode w = .ok i) :
    i.row.matchesWord w = true := by
  obtain ⟨o, f, v, a, rfl⟩ := w.exists_fields
  rw [decode_ofFields] at h
  unfold decodeFields at h
  split at h
  -- Each branch leaves its must-be-zero fields and its command; the last one decodes nothing.
  all_goals
    simp only [checkRange_eq_ok_iff, mustBeZero_eq_ok_iff, Bool.and_eq_true, beq_iff_eq, and_assoc, reduceCtorEq,
      ← Word.and_high_eq_zero_iff] at h
  all_goals
    rw [Row.matchesWord_ofFields]
    simp [← h, Instr.row, CmdWord.opc, CmdWord.f8, CmdWord.v16, CmdWord.a32]

/-- The command of a command's row with the operands that a word holds (R92). -/
def Instr.withOperandsOf (w : CmdWord) : Instr → Instr
  | .regRd _ => .regRd (.ofBits (w.f8.extractLsb' 0 2))
  | .regWr _ _ => .regWr (.ofBits (w.f8.extractLsb' 0 2)) w.a32
  | .setIrqEn _ => .setIrqEn (w.f8.getLsbD 0)
  | .setTarget _ => .setTarget w.a32
  | .arm _ => .arm w.a32
  | .harvest _ => .harvest w.a32
  | .waitFrame _ => .waitFrame w.a32
  | .diag _ => .diag w.f8
  | .sregWr _ _ => .sregWr w.f8 w.v16
  | .sregRd _ => .sregRd w.f8
  | .sregRmw _ _ _ => .sregRmw w.f8 w.v16 (w.a32.extractLsb' 0 16)
  | .setopt _ _ => .setopt w.f8 w.a32
  | .getopt _ => .getopt w.f8
  | i => i

/-- A word that selects a row is the word of a command: the row's mask leaves only operand bits free (R92, R93). -/
theorem encode_withOperandsOf {i : Instr} {w : CmdWord} (h : i.row.matchesWord w = true) :
    encode (i.withOperandsOf w) = w := by
  obtain ⟨o, f, v, a, rfl⟩ := w.exists_fields
  rw [Row.matchesWord_ofFields] at h
  -- The row is unfolded first, so that the kernel evaluates the fields of its mask on a closed word.
  cases i <;> dsimp only [Instr.row] at h <;> simp [CmdWord.opc, CmdWord.f8, CmdWord.v16, CmdWord.a32] at h
  case regRd | regWr => simp [h, Instr.withOperandsOf, encode, CtrlReg.toBits_ofBits, Byte.setWidth_low_two f h.2.1]
  case setIrqEn => simp only [CmdWord.f8_ofFields, h, Instr.withOperandsOf, encode, Byte.setWidth_low_one f h.2.1]
  case sregRmw =>
    simp [h, Instr.withOperandsOf, encode, Word.setWidth_low_half ((Word.and_high_eq_zero_iff a).1 h.2)]
  all_goals simp [h, Instr.withOperandsOf, encode]

/-- The decoder and the encoder agree: a word decodes to a command exactly if it is the command's word and the command
is in range (R95). -/
theorem decode_eq_ok_iff {w : CmdWord} {i : Instr} : decode w = .ok i ↔ encode i = w ∧ i.WellFormed := by
  constructor
  · intro h
    have hw := encode_withOperandsOf (row_matchesWord_of_decode h)
    rw [← hw, decode_encode, checkRange_ok_eq_ok_iff] at h
    obtain ⟨hi, hwf⟩ := h
    rw [hi] at hw hwf
    exact ⟨hw, hwf⟩
  · rintro ⟨rfl, hi⟩
    rw [decode_encode, checkRange_ok_eq_ok_iff]
    exact ⟨rfl, hi⟩

/-! ### The opcode map -/

theorem Instr.row_mem_opcodeTable (i : Instr) : i.row ∈ opcodeTable := by
  cases i <;> simp [opcodeTable, rowSamples, Instr.row]

/-- Every row's mask holds the whole of OPC (R94). -/
theorem opc_eq_of_matchesWord {r : Row} (hr : r ∈ opcodeTable) {w : CmdWord} (h : r.matchesWord w = true) :
    w.opc = r.pattern.opc := by
  have hmask : ∀ r ∈ opcodeTable, r.mask.opc = 0xFF#8 := by decide
  obtain ⟨o, f, v, a, rfl⟩ := w.exists_fields
  obtain ⟨hopc, -⟩ := (r.matchesWord_ofFields o f v a).1 h
  rwa [hmask r hr, Byte.and_ones, ← CmdWord.opc_ofFields o f v a] at hopc

/-- Each OPC of the map is one row's (R94). -/
theorem opcodeTable_opc_inj :
    ∀ r1 ∈ opcodeTable, ∀ r2 ∈ opcodeTable, r1.pattern.opc = r2.pattern.opc → r1 = r2 := by decide

/-! ### Illegal words -/

theorem exists_decode_error_iff (w : CmdWord) : (∃ e, decode w = .error e) ↔ ∀ i, decode w ≠ .ok i := by
  cases decode w <;> simp

/-- A command out of range, in the fields of its word (R95 b, c). -/
theorem not_wellFormed_iff_fields (i : Instr) : ¬ i.WellFormed ↔
    ((encode i).opc = 0x23#8 ∧ 13#8 < (encode i).f8) ∨
      (((encode i).opc = 0x40#8 ∨ (encode i).opc = 0x42#8) ∧ 16#8 < (encode i).f8) := by
  cases i with
  | diag _ | setopt _ _ | getopt _ =>
    simp [Instr.WellFormed, Instr.wellFormed, encode]
    rfl
  | _ => simp [Instr.WellFormed, Instr.wellFormed, encode]

/-- The command's own word decodes to it or to nothing. -/
theorem encode_illegal_iff (i : Instr) : (∃ e, decode (encode i) = .error e) ↔ ¬ i.WellFormed := by
  rw [exists_decode_error_iff]
  simp [decode_encode, checkRange_ok_eq_ok_iff]

/-- The illegal words, by what makes them so (R95). -/
theorem illegal_iff (w : CmdWord) : (∃ e, decode w = .error e) ↔
    (∀ r ∈ opcodeTable, r.matchesWord w = false) ∨ (w.opc = 0x23#8 ∧ 13#8 < w.f8) ∨
      ((w.opc = 0x40#8 ∨ w.opc = 0x42#8) ∧ 16#8 < w.f8) := by
  by_cases hrow : ∀ r ∈ opcodeTable, r.matchesWord w = false
  · refine iff_of_true ((exists_decode_error_iff w).2 fun i hi => ?_) (.inl hrow)
    exact Bool.false_ne_true ((hrow _ i.row_mem_opcodeTable).symm.trans (row_matchesWord_of_decode hi))
  · obtain ⟨i, rfl⟩ : ∃ i, encode i = w := by
      push Not at hrow
      obtain ⟨r, hr, hmatch⟩ := hrow
      obtain ⟨i, -, rfl⟩ := List.mem_map.1 hr
      exact ⟨_, encode_withOperandsOf (Bool.eq_true_of_not_eq_false hmatch)⟩
    rw [encode_illegal_iff, not_wellFormed_iff_fields, or_iff_right hrow]

theorem runWord_of_error {w : CmdWord} {e : DecodeError} (h : decode w = .error e) (s : Machine.State) :
    Machine.runWord w s = .next (Machine.answered .illegalCommand 0#32 s) := by
  rw [Machine.runWord, h]
  rfl

/-! ### The statements -/

/-- Settles O2: the decoder inverts the encoder on the commands in range. -/
theorem encodedCommandsDecodeBack : Obligations.EncodedCommandsDecodeBack :=
  fun _ hi => decode_eq_ok_iff.2 ⟨rfl, hi⟩

/-- Settles O3: a word that decodes selects a row, so it is some command's word, and that command is the one decoded. -/
theorem decodedWordsEncodeBack : Obligations.DecodedWordsEncodeBack :=
  fun _ _ => decode_eq_ok_iff.1

/-- Settles O4: two selected rows have the word's OPC, which is one row's. -/
theorem atMostOneRowMatches : Obligations.AtMostOneRowMatches := by
  refine ⟨fun w r1 r2 hr1 hr2 h1 h2 => ?_, fun w i hi => ⟨i.row_mem_opcodeTable, row_matchesWord_of_decode hi⟩⟩
  exact opcodeTable_opc_inj r1 hr1 r2 hr2 ((opc_eq_of_matchesWord hr1 h1).symm.trans (opc_eq_of_matchesWord hr2 h2))

/-- Settles O5: an illegal word selects no row, or is the word of a command out of range; it is answered at once. -/
theorem illegalWordsAreTheThreeCases : Obligations.IllegalWordsAreTheThreeCases :=
  fun w => ⟨illegal_iff w, fun s ⟨_, he⟩ => runWord_of_error he s, rfl⟩

/-- Settles O1: the decoder evaluated on the ten words. -/
theorem sampleWordsDecode : Obligations.SampleWordsDecode := by
  unfold Obligations.SampleWordsDecode
  decide

end Sys2Proof

/-!
PROOFS. 40_controller_access.md: the controller register commands, exactly; what the family leaves alone (R121); and
which commands can stop a frame in progress (R153).
-/
namespace Sys2Proof.Machine

/-! ### The register writes, exactly -/

/-- A CTRL write leaves the engine Waiting unless it leaves the gate open (R109). -/
theorem writeCtrl_eq (rx pwr : Bool) (s : State) :
    writeCtrl rx pwr s = { s with rx := rx, pwr := pwr, eng := if rx && pwr then s.eng else .waiting } := by
  have heng : (writeCtrl rx pwr s).eng = if rx && pwr then s.eng else .waiting := by
    rw [writeCtrl_eng, ← Bool.not_and]
    cases s.eng with
    | waiting => simp
    | capturing base n => cases rx && pwr <;> rfl
  rw [← heng]
  rfl

theorem writeFp_eq (v : Word) (s : State) :
    writeFp v s = { s with fp := v, pend := s.pend && !s.params.fpWriteAcks } := by
  unfold writeFp
  cases s.params.fpWriteAcks <;> simp

theorem zextBit_eq_ite (b : Bool) : zextBit b = if b then 1#32 else 0#32 := by
  cases b <;> rfl

/-- The outcome of a command that acts on the registers and is answered. -/
theorem next_respond_eq_answered {u v : State} (h : u = v) (code : Code) (data : Word) :
    (.next (respond code data u) : Outcome) = .next (answered code data v) := by
  rw [h]
  rfl

/-! ### Each command, exactly -/

/-- Settles O26: the register write at each offset, answered. -/
theorem regWrWritesEachRegister : Obligations.RegWrWritesEachRegister :=
  fun d s => ⟨next_respond_eq_answered (writeCtrl_eq ..) .., rfl,
    next_respond_eq_answered (writeCtrlReg_irqStatus d s) .., next_respond_eq_answered (writeFp_eq d s) ..⟩

/-- Settles O28: a CTRL write of two ones keeps the engine. -/
theorem enableOpensTheGate : Obligations.EnableOpensTheGate :=
  fun s => next_respond_eq_answered (writeCtrl_eq true true s) ..

/-- Settles O29: a CTRL write of two zeros, and the FSM to Idle. -/
theorem disableReturnsToIdle : Obligations.DisableReturnsToIdle := by
  refine fun s => next_respond_eq_answered ?_ ..
  rw [writeCtrl_eq]
  rfl

/-- Settles O30: CTRL writes with the power bit as it is. -/
theorem receiveGateCommandsKeepPower : Obligations.ReceiveGateCommandsKeepPower :=
  fun s => ⟨next_respond_eq_answered (writeCtrl_eq true s.pwr s) ..,
    next_respond_eq_answered (writeCtrl_eq false s.pwr s) ..⟩

/-- Settles O31: the line is computed from the registers, so it follows the write. -/
theorem setIrqEnWritesTheMask : Obligations.SetIrqEnWritesTheMask :=
  fun b s => ⟨answered .ok 0#32 { s with ie := b }, rfl, rfl, rfl⟩

/-- Settles O32: the state is the one the command found, answered with the register. -/
theorem readAccessorsReturnTheirRegister : Obligations.ReadAccessorsReturnTheirRegister := by
  refine fun s => ⟨?_, rfl⟩
  rw [← zextBit_eq_ite]
  rfl

/-- Settles O33: the FRAME_PTR write, answered. -/
theorem setTargetWritesTheFramePointer : Obligations.SetTargetWritesTheFramePointer :=
  fun a s => next_respond_eq_answered (writeFp_eq a s) ..

/-- Settles O34: both commands clear PEND, bit 0 of the word 1 being set. -/
theorem ackClearsPend : Obligations.AckClearsPend :=
  fun _ => ⟨rfl, rfl⟩

/-! ### What the family leaves alone -/

/-- A command with an opcode below 0x20 writes controller registers, the engine and the draws; DISABLE the FSM and the
armed buffer too (R121). -/
theorem CommandEffect.controller_frame {s u : State} {i : Instr} (h : CommandEffect s i u)
    (hopc : (encode i).opc.toNat < 0x20) :
    (i ≠ .disable → u.fsm = s.fsm ∧ u.armed = s.armed) ∧
    u = { s with rx := u.rx, pwr := u.pwr, ie := u.ie, pend := u.pend, fp := u.fp, eng := u.eng, env := u.env,
                 fsm := u.fsm, armed := u.armed } := by
  cases h with
  | regWr o d =>
    rw [writeCtrlReg_frame]
    exact ⟨fun _ => ⟨rfl, rfl⟩, rfl⟩
  | disable => exact ⟨fun hne => absurd rfl hne, rfl⟩
  | draws | enable | enableRx | disableRx | setIrqEn | setTarget | ack => exact ⟨fun _ => ⟨rfl, rfl⟩, rfl⟩
  | arm | harvest | waitFrame | sregWr | sregRd | sregRmw | setopt => simp [encode] at hopc

/-- Settles O35: a command of the family is answered, never held, and its effect is within the frame. -/
theorem controllerCommandsKeepTheHandoff : Obligations.ControllerCommandsKeepTheHandoff := by
  intro i s t h hopc
  obtain ⟨u, code, data, heffect, rfl⟩ | ⟨τ, e, rfl, -⟩ | ⟨rfl, -, -⟩ := exec_cases h
  · obtain ⟨hhandoff, hframe⟩ := heffect.controller_frame hopc
    refine ⟨hhandoff, ?_⟩
    rw [hframe]
    exact ⟨rfl, rfl, rfl, rfl, rfl, rfl, rfl, rfl, rfl⟩
  · simp [encode] at hopc
  · simp [encode] at hopc

/-! ### Stopping a frame in progress -/

/-- While a frame is in progress the power bit is set and no completion is pending (R150, R152). -/
theorem EngineInv.of_capturing {s : State} (h : EngineInv s) (hcapturing : s.eng.isCapturing = true) :
    s.pwr = true ∧ s.pend = false := by
  unfold EngineInv at h
  split at h
  · rename_i hwaiting
    rw [hwaiting] at hcapturing
    cases hcapturing
  · obtain ⟨-, -, -, hpwr, -, hpend⟩ := h
    exact ⟨hpwr, hpend⟩

/-- A CTRL write stops the engine only by closing the gate (R109). -/
theorem writeCtrl_eng_kept_or_gate_closed (rx pwr : Bool) (s : State) :
    (writeCtrl rx pwr s).eng = s.eng ∨ ((writeCtrl rx pwr s).eng = .waiting ∧ (writeCtrl rx pwr s).gate = false) := by
  rw [writeCtrl_eq]
  cases hopen : rx && pwr with
  | true => exact .inl rfl
  | false => exact .inr ⟨rfl, (Bool.and_comm pwr rx).trans hopen⟩

/-- With the power on and no completion pending, a command keeps the engine or is one of R153's five, which leaves it
Waiting and PEND clear. -/
theorem CommandEffect.eng_kept_or_aborted {s u : State} {i : Instr} (h : CommandEffect s i u) (hpwr : s.pwr = true)
    (hpend : s.pend = false) :
    u.eng = s.eng ∨
    (u.eng = .waiting ∧ u.pend = false ∧
      ((∃ d, i = .regWr .ctrl d ∧ u.gate = false) ∨ i = .disable ∨ i = .disableRx ∨
       (∃ b, i = .arm b) ∨ (∃ n, i = .harvest n))) := by
  cases h with
  | regWr o d =>
    cases o with
    | ctrl =>
      obtain hkept | ⟨hwaiting, hclosed⟩ := writeCtrl_eng_kept_or_gate_closed (d.getLsbD 0) (d.getLsbD 1) s
      · exact .inl hkept
      · exact .inr ⟨hwaiting, hpend, .inl ⟨d, rfl, hclosed⟩⟩
    | irqMask | framePtr => exact .inl rfl
    | irqStatus => exact .inl (by rw [writeCtrlReg_irqStatus])
  | enable => exact .inl (by rw [writeCtrl_eq]; rfl)
  | enableRx => exact .inl (by rw [writeCtrl_eq, hpwr]; rfl)
  | disable => exact .inr ⟨by rw [writeCtrl_eq]; rfl, hpend, .inr (.inl rfl)⟩
  | disableRx => exact .inr ⟨by rw [writeCtrl_eq]; rfl, hpend, .inr (.inr (.inl rfl))⟩
  | arm b => exact .inr ⟨armAccepted_eng b s, rfl, .inr (.inr (.inr (.inl ⟨b, rfl⟩)))⟩
  | harvest n => exact .inr ⟨harvestAccepted_eng n s, rfl, .inr (.inr (.inr (.inr ⟨n, rfl⟩)))⟩
  | _ => exact .inl rfl

/-- Settles O46: a held command keeps the engine, and an answered one does as its effect says. -/
theorem onlyGateClosingCommandsAbort : Obligations.OnlyGateClosingCommandsAbort := by
  intro i s t hs hcapturing h
  obtain ⟨-, -, heng, -⟩ := hs
  obtain ⟨hpwr, hpend⟩ := heng.of_capturing hcapturing
  have hmem := exec_mem h
  have hlog := exec_memLog h
  obtain ⟨u, code, data, heffect, rfl⟩ | ⟨τ, e, -, rfl⟩ | ⟨-, -, rfl⟩ := exec_cases h
  · obtain hkept | ⟨hwaiting, hclear, hcommand⟩ := heffect.eng_kept_or_aborted hpwr hpend
    · exact .inl hkept
    · exact .inr ⟨hwaiting, hclear, hmem, hlog, hcommand⟩
  · exact .inl rfl
  · exact .inl rfl

end Sys2Proof.Machine

/-!
PROOFS. 41_handoff.md: the handoff commands and the engine's START and COMPLETE, exactly; the double-arm (R132), and the
buffer a HARVEST names after an undisturbed frame (R136). Also the port's turn with a held command (R140, R195).
-/
namespace Sys2Proof.Machine

/-! ### The port's turn with a held command -/

/-- A held WAIT_FRAME is evaluated again (R140). -/
theorem portStep_of_waitFrame {s : State} {c : Ctx} {τ : Word} (hslot : s.slot.get c = some (.waitFrame τ)) :
    portStep c s = exec (.waitFrame τ) { s with ctx := c } := by
  simp only [portStep, hslot]
  rfl

/-- Settles O8: the port's turn, by what its slot and its stream hold. -/
theorem heldCommandsAreReexamined : Obligations.HeldCommandsAreReexamined := by
  intro s c hagent
  rw [step_of_nextAgent hagent]
  refine ⟨fun τ hslot => portStep_of_waitFrame hslot, fun hslot => ?_, fun hslot hstream => ?_⟩
  · simp only [agentStep, portStep, hslot]
  · simp only [agentStep, portStep, hslot, hstream]

/-! ### ARM -/

theorem armRefused_iff (b : Word) (s : State) :
    armRefused b s = true ↔ s.seq ≠ .sIdle ∨ s.fsm = .draining ∨ (s.ready = true ∧ s.last = some b) := by
  simp [armRefused, or_assoc]

theorem armAccepted_eq (b : Word) (s : State) :
    armAccepted b s =
      { s with rx := true, eng := .waiting, fp := b, pend := false, armed := some b, fsm := .armed } := by
  rw [← armAccepted_eng b s]
  rfl

theorem exec_arm_of_refused {b : Word} {s : State} (h : armRefused b s = true) :
    exec (.arm b) s = .next (answered .protocolViolation 0#32 s) :=
  congrArg Host.Outcome.next (if_pos h)

theorem exec_arm_of_accepted {b : Word} {s : State} (hseq : s.seq = .sIdle) (hfsm : s.fsm ≠ .draining)
    (hfree : ¬ (s.ready = true ∧ s.last = some b)) :
    exec (.arm b) s = .next (answered .ok 0#32
      { s with rx := true, eng := .waiting, fp := b, pend := false, armed := some b, fsm := .armed }) := by
  have haccepted : ¬ armRefused b s = true := by
    rw [armRefused_iff, not_or, not_or, ne_eq, not_not]
    exact ⟨hseq, hfsm, hfree⟩
  rw [← armAccepted_eq]
  exact congrArg Host.Outcome.next (if_neg haccepted)

/-- Settles O36: accepted when none of the three refusals holds, else refused. -/
theorem armAcceptedAndRefused : Obligations.ArmAcceptedAndRefused :=
  fun b s => ⟨exec_arm_of_accepted, fun h => exec_arm_of_refused ((armRefused_iff b s).2 h)⟩

/-- Settles O37: the first ARM leaves what the second is accepted or refused by, the FSM being Armed. -/
theorem doubleArmKeepsNoRecord : Obligations.DoubleArmKeepsNoRecord := by
  intro a b s s1 hseq hfsm hfreeA hfreeB hfirst
  rw [exec_arm_of_accepted hseq hfsm hfreeA] at hfirst
  cases hfirst
  exact ⟨_, exec_arm_of_accepted hseq nofun hfreeB, rfl, rfl, rfl, rfl, rfl, rfl, rfl, rfl, by simp [answered]⟩

/-! ### HARVEST -/

theorem harvestRefused_iff (n : Word) (s : State) : harvestRefused n s = true ↔ s.fsm ≠ .draining ∨ n = s.fp := by
  simp [harvestRefused]

theorem harvestAccepted_eq (n : Word) (s : State) :
    harvestAccepted n s =
      { s with rx := true, eng := .waiting, fp := n, pend := false, last := some s.fp, ready := true,
               armed := some n, fsm := .armed } := by
  rw [← harvestAccepted_eng n s]
  rfl

theorem exec_harvest_of_refused {n : Word} {s : State} (h : harvestRefused n s = true) :
    exec (.harvest n) s = .next (answered .protocolViolation 0#32 s) :=
  congrArg Host.Outcome.next (if_pos h)

theorem exec_harvest_of_accepted {n : Word} {s : State} (hfsm : s.fsm = .draining) (hne : n ≠ s.fp) :
    exec (.harvest n) s = .next (answered .ok s.fp
      { s with rx := true, eng := .waiting, fp := n, pend := false, last := some s.fp, ready := true,
               armed := some n, fsm := .armed }) := by
  have haccepted : ¬ harvestRefused n s = true := by
    rw [harvestRefused_iff, not_or, ne_eq, not_not]
    exact ⟨hfsm, hne⟩
  rw [← harvestAccepted_eq]
  exact congrArg Host.Outcome.next (if_neg haccepted)

/-- Settles O38: accepted when neither refusal holds, else refused. -/
theorem harvestAcceptedAndRefused : Obligations.HarvestAcceptedAndRefused :=
  fun n s => ⟨exec_harvest_of_accepted, fun h => exec_harvest_of_refused ((harvestRefused_iff n s).2 h)⟩

/-! ### WAIT_FRAME -/

theorem execWaitFrame_of_ready {s : State} {a : Word} (hready : s.ready = true) (hlast : s.last = some a) (τ : Word) :
    execWaitFrame τ s = .next (respond .ok a (takeReady s)) := by
  simp [execWaitFrame, readyBuffer, hready, hlast]

section
variable {s : State} (hready : s.ready = false)
include hready

theorem execWaitFrame_of_idle (hfsm : s.fsm = .idle) (τ : Word) :
    execWaitFrame τ s = .next (respond .cancelled 0#32 s) := by
  simp [execWaitFrame, hready, hfsm]

variable (hfsm : s.fsm ≠ .idle)
include hfsm

theorem execWaitFrame_of_no_timeout : execWaitFrame 0#32 s = .next (hold (.waitFrame 0#32) s) := by
  simp [execWaitFrame, hready, hfsm]

/-- With a timeout set, the timeout draw decides between TIMEOUT and holding (R141). -/
theorem execWaitFrame_of_timeout {τ : Word} (hτ : τ ≠ 0#32) :
    execWaitFrame τ s = .next
      (if s.nextTimeout then respond .timeout 0#32 (s.withEnv s.env.takeTimeout)
      else hold (.waitFrame τ) (s.withEnv s.env.takeTimeout)) := by
  simp [execWaitFrame, hready, hfsm, hτ]

end

/-- Settles O39: each outcome of WAIT_FRAME, in R140's order, and the port's turn for a held one. -/
theorem waitFrameTakesCancelsTimesOutOrHolds : Obligations.WaitFrameTakesCancelsTimesOutOrHolds := by
  intro τ s
  refine ⟨fun a hready hlast => execWaitFrame_of_ready hready hlast τ,
    fun hready hfsm => execWaitFrame_of_idle hready hfsm τ, ?_, fun hready hfsm hτ hdraw => ?_,
    fun hready hfsm hτ hdraw => ?_, fun c => portStep_of_waitFrame⟩
  · rintro hready hfsm rfl
    exact execWaitFrame_of_no_timeout hready hfsm
  all_goals
    refine (execWaitFrame_of_timeout hready hfsm hτ).trans ?_
    rw [hdraw]
    rfl

/-! ### DIAG -/

/-- An item that takes no draw is answered and leaves the state as it is (R145). -/
theorem exec_diag {i : Byte} {v : Word} {s : State} (hvalue : diagValue i s = some v) (hkept : afterDiag i s = s) :
    exec (.diag i) s = .next (answered .ok v s) := by
  show execDiag i s = _
  simp only [execDiag, hvalue, hkept]
  rfl

/-- The code and the id of seq.result stand in the two low bytes of DIAG item 13 (R146). -/
theorem zextWord_append_bytes (id code : Byte) :
    (zextWord (id ++ code)).extractLsb' 0 8 = code ∧ (zextWord (id ++ code)).extractLsb' 8 8 = id ∧
      (zextWord (id ++ code)).extractLsb' 16 16 = 0#16 := by
  refine ⟨?_, ?_, Word.extractLsb'_high_setWidth _⟩
  · rw [zextWord, BitVec.extractLsb'_setWidth_of_le (by decide)]
    exact BitVec.extractLsb'_append_eq_right
  · rw [zextWord, BitVec.extractLsb'_setWidth_of_le (by decide)]
    exact BitVec.extractLsb'_append_eq_left

/-- Settles O40: items 0 to 2 are the register reads; the others answer the value of their row. -/
theorem diagReturnsEachItem : Obligations.DiagReturnsEachItem := by
  intro s
  refine ⟨rfl, rfl, rfl, exec_diag rfl rfl, exec_diag rfl rfl, exec_diag ?_ rfl, exec_diag ?_ rfl, exec_diag ?_ rfl,
    exec_diag ?_ rfl, exec_diag ?_ rfl, exec_diag ?_ rfl, exec_diag ?_ rfl, exec_diag ?_ rfl,
    _, exec_diag rfl rfl, zextWord_append_bytes ..⟩
  all_goals refine congrArg some ?_
  · cases s.armed <;> rfl
  · cases s.armed <;> rfl
  · cases s.last <;> rfl
  · cases s.last <;> rfl
  · exact zextBit_eq_ite s.ready
  · exact zextBit_eq_ite s.irq
  · cases s.eng <;> rfl
  · cases s.seq <;> rfl

/-! ### START and COMPLETE -/

theorem baseAligned_iff (base : Word) : baseAligned base = true ↔ base.toNat % 2 = 0 := by
  simp [baseAligned, bufAlign]

theorem baseAligned_eq_false_iff (base : Word) : baseAligned base = false ↔ base.toNat % 2 ≠ 0 := by
  rw [← Bool.not_eq_true, baseAligned_iff]

theorem baseInRange_eq_false_iff (base : Word) : baseInRange base = false ↔ base.toNat + 153600 > 2 ^ 32 := by
  rw [← Bool.not_eq_true, baseInRange_iff, not_le]

theorem engineStep_of_waiting {s : State} (heng : s.eng = .waiting) :
    engineStep s = if s.startEnabled then engineStart s else .next s := by
  simp only [engineStep, heng]

theorem startEnabled_of_waiting {s : State} (heng : s.eng = .waiting) :
    s.startEnabled = true ↔ s.pwr = true ∧ s.rx = true ∧ s.pend = false := by
  simp [startEnabled_eq_true_iff, heng, Engine.isCapturing, and_assoc]

theorem engineStart_misaligned {s : State} (h : baseAligned s.fp = false) :
    engineStart s = .fault (.bufferMisaligned s.fp) := by
  simp [engineStart, h]

theorem engineStart_out_of_range {s : State} (halign : baseAligned s.fp = true) (hrange : baseInRange s.fp = false) :
    engineStart s = .fault (.bufferOutOfRange s.fp) := by
  simp [engineStart, halign, hrange]

/-- Settles O41: not enabled, or START with each outcome of its two checks; misalignment is reported first. -/
theorem startLatchesOrFaults : Obligations.StartLatchesOrFaults := by
  intro s heng
  have hstep := engineStep_of_waiting heng
  rw [← startEnabled_of_waiting heng]
  refine ⟨fun hdisabled => hstep.trans (if_neg hdisabled), fun henabled => ?_⟩
  rw [if_pos henabled] at hstep
  have hmisaligned (h : s.fp.toNat % 2 ≠ 0) : engineStep s = .fault (.bufferMisaligned s.fp) :=
    hstep.trans (engineStart_misaligned ((baseAligned_eq_false_iff _).2 h))
  refine ⟨fun halign _ => hmisaligned halign, fun halign hrange => hstep.trans ?_,
    fun halign _ => .inl (hmisaligned halign), fun halign hrange => ?_⟩
  · exact engineStart_out_of_range ((baseAligned_iff _).2 halign) ((baseInRange_eq_false_iff _).2 hrange)
  · exact engineStep_start henabled ((baseAligned_iff _).2 halign) ((baseInRange_iff _).2 hrange)

/-- Settles O43: the engine's step is COMPLETE, which moves the FSM from Armed only. -/
theorem completeEndsTheFrame : Obligations.CompleteEndsTheFrame := by
  intro s base heng
  rw [engineStep_complete heng, engineComplete]
  cases s.fsm <;> rfl

/-! ### ARM, a frame, HARVEST -/

/-- After ARM of a valid base with the power on, an undisturbed engine captures a frame into that buffer and the FSM is
Draining, with FP still naming the buffer and no response after ARM's (R131, R150 to R154). -/
theorem engineRun_after_arm {a : Word} {s : State} (hpwr : s.pwr = true) (halign : baseAligned a = true)
    (hrange : baseInRange a = true) :
    ∃ t, engineRun (framePixels + 2) (answered .ok 0#32 (armAccepted a s)) = .next t ∧
      t.fsm = .draining ∧ t.fp = a ∧ t.ctx = s.ctx ∧
      t.responses.get s.ctx = s.responses.get s.ctx ++ [⟨.ok, 0#32⟩] := by
  have henabled : (answered .ok 0#32 (armAccepted a s)).startEnabled = true :=
    (startEnabled_of_waiting (armAccepted_eng a s)).2 ⟨hpwr, rfl, rfl⟩
  obtain ⟨t, hrun, ht, -⟩ := engineDeliversAWholeFrame _ henabled halign hrange
  refine ⟨t, hrun, ?_⟩
  rw [ht]
  exact ⟨rfl, rfl, rfl, PerCtx.get_set_same ..⟩

/-- Settles O45: after ARM a and the frame the FSM is Draining with FP still a, and HARVEST names FP. -/
theorem harvestNamesTheCapturedBuffer : Obligations.HarvestNamesTheCapturedBuffer := by
  intro a b s s1 hpwr hseq hfsm hfree halign hrange hne harm
  rw [exec_arm_of_accepted hseq hfsm hfree, ← armAccepted_eq] at harm
  cases harm
  obtain ⟨t, hrun, hdraining, hfp, hctx, hresponses⟩ := engineRun_after_arm hpwr halign hrange
  refine ⟨t, _, hrun, hdraining, exec_harvest_of_accepted hdraining (by rwa [hfp]), ?_, rfl, rfl, rfl, ?_⟩
  · exact congrArg some hfp
  · simp [answered, hfp, hctx, hresponses]

end Sys2Proof.Machine

/-!
PROOFS. 42_sensor_interface.md: SREG_RD, and what a sensor register holds after SREG_WR and SREG_RMW when every
transaction succeeds (R163, R166, R168, R169).
-/
namespace Sys2Proof.Machine

/-! ### SREG_RD -/

theorem execSregRd_of_running {s : State} (hseq : s.seq ≠ .sIdle) (id : Byte) :
    execSregRd id s = .next (respond .protocolViolation 0#32 s) := by
  unfold execSregRd
  rw [if_pos ((Sequencer.isRunning_eq_true_iff _).2 hseq)]

section
variable {s s1 : State} (hseq : s.seq = .sIdle) {id : Byte}
include hseq

theorem execSregRd_of_read {v : Half} (hread : busRead id s = (some v, s1)) :
    execSregRd id s = .next (respond .ok (zextWord v) s1) := by
  unfold execSregRd
  rw [if_neg (by simp [hseq]), hread]

theorem execSregRd_of_failed_read (hread : busRead id s = (none, s1)) :
    execSregRd id s = .next (respond .busTransferError (zextWord id) s1) := by
  unfold execSregRd
  rw [if_neg (by simp [hseq]), hread]

theorem exec_sregRd_stored (hok : s.nextBusOk = true) (hstored : s.params.readModel = .stored) :
    exec (.sregRd id) s = .next (answered .ok (zextWord (s.readSr id))
      (s.withSensor s.sr (s.busLog ++ [⟨.read, id, s.readSr id, true⟩]) s.env.takeBusOk)) :=
  execSregRd_of_read hseq (busRead_stored hok hstored)

end

/-- Settles O48: refused, or one read: of SR in the Stored model, of a draw in the Oracle model, or failed. -/
theorem sregRdMakesOneRead : Obligations.SregRdMakesOneRead := by
  intro id s
  refine ⟨fun hseq => execSregRd_of_running hseq id, fun hseq hok hstored => ?_,
    fun hseq hok horacle => ⟨_, rfl, ?_⟩, fun hseq hfail => ⟨_, rfl, ?_⟩, fun b0 b1 => ?_⟩
  · exact exec_sregRd_stored hseq hok hstored
  · exact execSregRd_of_read hseq (busRead_oracle hok horacle)
  · exact execSregRd_of_failed_read hseq (busRead_fail hfail)
  · exact ⟨BitVec.extractLsb'_append_eq_left, BitVec.extractLsb'_append_eq_right⟩

/-! ### A register written and read back -/

theorem nextBusOk_of_busOk {s : State} {ok : Bool} {rest : List Bool} (h : s.env.busOk = ok :: rest) :
    s.nextBusOk = ok := by
  rw [State.nextBusOk, h, List.headD_cons]

/-- Settles O50: SREG_WR leaves `v` in SR[id] and the second success draw next, so SREG_RD answers `v`. -/
theorem registerRoundTrip : Obligations.RegisterRoundTrip := by
  intro id v s rest hseq hstored hbus
  obtain ⟨-, hwrite, -, hwire⟩ := sregWrMakesOneWrite id v s
  have hwritten := hwrite hseq (nextBusOk_of_busOk hbus)
  refine ⟨_, _, hwritten, exec_sregRd_stored ?_ ?_ ?_, ?_, ?_, hwire⟩
  · exact hseq
  · exact nextBusOk_of_busOk (congrArg List.tail hbus)
  · exact hstored
  · simp [answered, State.readSr, State.withSensor, zextWord]
  · simp [answered, State.readSr, State.withSensor]

/-! ### The bits SREG_RMW writes -/

@[simp] theorem getLsbD_rmwValue (v set clear : Half) (k : Nat) :
    (rmwValue v set clear).getLsbD k = (v.getLsbD k && !clear.getLsbD k || set.getLsbD k) := by
  by_cases hk : k < 16
  · simp [rmwValue, hk]
  · simp [rmwValue, hk, BitVec.getLsbD_of_ge v k (by omega)]

theorem rmwValue_keeps_unnamed (v set clear : Half) :
    rmwValue v set clear &&& ~~~(set ||| clear) = v &&& ~~~(set ||| clear) := by
  ext k hk
  simp only [← BitVec.getLsbD_eq_getElem, BitVec.getLsbD_and, BitVec.getLsbD_not, BitVec.getLsbD_or, getLsbD_rmwValue]
  cases set.getLsbD k <;> cases clear.getLsbD k <;> simp

theorem rmwValue_sets (v set clear : Half) : rmwValue v set clear &&& set = set := by
  ext k hk
  simp only [← BitVec.getLsbD_eq_getElem, BitVec.getLsbD_and, getLsbD_rmwValue]
  cases set.getLsbD k <;> simp

theorem rmwValue_clears (v set clear : Half) : rmwValue v set clear &&& (clear &&& ~~~set) = 0#16 := by
  ext k hk
  simp only [← BitVec.getLsbD_eq_getElem, BitVec.getLsbD_and, BitVec.getLsbD_not, getLsbD_rmwValue]
  cases set.getLsbD k <;> cases clear.getLsbD k <;> simp

theorem getLsbD_chipEnableMask (k : Nat) : chipEnableMask.getLsbD k = decide (k = 1) := by
  rw [show chipEnableMask = BitVec.twoPow 16 1 by decide, BitVec.getLsbD_twoPow]
  simp [eq_comm]

theorem rmwValue_chipEnable (v : Half) :
    (rmwValue v chipEnableMask 0#16).getLsbD 1 = true ∧
      ∀ k, k ≠ 1 → (rmwValue v chipEnableMask 0#16).getLsbD k = v.getLsbD k := by
  simp +contextual [getLsbD_chipEnableMask]

/-- With both transactions ok in the Stored model SREG_RMW leaves its function of SR[id] in SR[id], and SR is else kept
(R167). -/
theorem exec_sregRmw_readSr {id : Byte} (set clear : Half) {s : State} {rest : List Bool} (hseq : s.seq = .sIdle)
    (hfsm : s.fsm = .idle) (hstored : s.params.readModel = .stored) (hbus : s.env.busOk = true :: true :: rest) :
    ∃ t, exec (.sregRmw id set clear) s = .next t ∧ t.readSr id = rmwValue (s.readSr id) set clear ∧
      ∀ j, j ≠ id → t.readSr j = s.readSr j := by
  obtain ⟨-, -, hrmw⟩ := sregRmwReadsThenWrites id set clear s
  obtain ⟨hexec, -⟩ := hrmw _ _ _ hseq hfsm (nextBusOk_of_busOk hbus) (.inl ⟨hstored, rfl, rfl⟩) rfl
  refine ⟨_, hexec (nextBusOk_of_busOk (congrArg List.tail hbus)), ?_, fun j hj => ?_⟩
  · exact State.readSr_writeSr_same s id _
  · exact State.readSr_writeSr_other s hj _

/-- Settles O51: SR[id] becomes SREG_RMW's function of it, read bit by bit. -/
theorem rmwKeepsUnnamedBits : Obligations.RmwKeepsUnnamedBits := by
  intro id a c s rest hseq hfsm hstored hbus
  obtain ⟨t, hexec, hsr, hothers⟩ := exec_sregRmw_readSr (id := id) a c hseq hfsm hstored hbus
  refine ⟨t, hexec, ?_⟩
  rw [hsr]
  refine ⟨rmwValue_keeps_unnamed .., rmwValue_sets .., rmwValue_clears .., hothers, ?_⟩
  rintro rfl rfl
  exact rmwValue_chipEnable _

end Sys2Proof.Machine

/-!
PROOFS. 43_sequencer.md: the option commands and CONFIGURE (R175 to R179), the transaction list's values (R181 to R189).
-/
namespace Sys2Proof.Machine

/-! ### Who starts the sequencer -/

/-- Until it is answered a command leaves the sequencer alone (R178). -/
theorem CommandEffect.seq_kept {s u : State} {i : Instr} (h : CommandEffect s i u) : u.seq = s.seq := by
  cases h with
  | regWr o d => rw [writeCtrlReg_frame]
  | _ => rfl

theorem engineStep_seq {s t : State} (h : engineStep s = .next t) : t.seq = s.seq := by
  obtain ⟨-, -, -, rfl⟩ | ⟨base, n, -, -, rfl⟩ | ⟨base, -, rfl⟩ | rfl := engineStep_cases h <;> rfl

theorem seqStep_of_sIdle {s : State} (hseq : s.seq = .sIdle) : seqStep s = s := by
  simp only [seqStep, hseq]

/-- Settles O22: an answered command and a held WAIT_FRAME keep the sequencer; an accepted CONFIGURE holds. -/
theorem onlyConfigureStartsTheSequencer : Obligations.OnlyConfigureStartsTheSequencer := by
  refine ⟨fun i s t h hidle hrunning => ?_, fun s t => engineStep_seq, fun s hidle => ?_, fun s a => ?_⟩
  · obtain ⟨u, code, data, heffect, rfl⟩ | ⟨τ, e, -, rfl⟩ | ⟨hi, -, rfl⟩ := exec_cases h
    · rw [respond_seq, heffect.seq_kept, hidle] at hrunning
      cases hrunning
    · rw [hold_seq, State.withEnv_seq, hidle] at hrunning
      cases hrunning
    · exact ⟨hi, PerCtx.get_set_same ..⟩
  · rw [seqStep_of_sIdle ((Sequencer.isRunning_eq_false_iff _).1 hidle)]
  · cases a with
    | reset => exact .inr rfl
    | memWrite | memRead => exact .inl rfl

/-! ### SETOPT and GETOPT -/

theorem zextWord_setWidth {x : Word} {w : Nat} (h : x.toNat < 2 ^ w) : zextWord (x.setWidth w) = x := by
  apply BitVec.eq_of_toNat_eq
  rw [zextWord, BitVec.toNat_setWidth, BitVec.toNat_setWidth, Nat.mod_eq_of_lt h, Nat.mod_eq_of_lt x.isLt]

theorem zextBit_getLsbD_zero {x : Word} (h : x.toNat < 2 ^ 1) : zextBit (x.getLsbD 0) = x := by
  obtain rfl | rfl : x = 0#32 ∨ x = 1#32 := by bv_omega
  · rfl
  · rfl

theorem Params.pixclkDivBits_le {p : Params} (h : p.wf = true) : p.pixclkDivBits ≤ 16 := by
  simp only [Params.wf, Bool.and_eq_true, decide_eq_true_eq] at h
  obtain ⟨⟨⟨⟨-, hfield⟩, -⟩, -⟩, -⟩ := h
  omega

/-- The option written reads the value that fits it (R175, R176). -/
theorem Options.get_set_same {p : Params} (hp : p.wf = true) (o : Options) {i : Byte} {x : Word} {width : Nat}
    (hwidth : optWidth p i = some width) (fits : x.toNat < 2 ^ width) : (o.set i x).get i = some x := by
  have hdiv : x.toNat < 2 ^ p.pixclkDivBits → x.toNat < 2 ^ 16 := fun h =>
    h.trans_le (Nat.pow_le_pow_right (by decide) (Params.pixclkDivBits_le hp))
  unfold optWidth at hwidth
  split at hwidth <;> cases hwidth
  -- the cases are the options in R38's order: 2 is a whole word, 7 to 9 and 11 are flags, 10 is PIXCLK_DIV
  case h_3 => rfl
  case h_8 | h_9 | h_10 | h_12 => exact congrArg some (zextBit_getLsbD_zero fits)
  case h_11 => exact congrArg some (zextWord_setWidth (hdiv fits))
  all_goals exact congrArg some (zextWord_setWidth fits)

/-- SETOPT leaves every other option alone (R175). -/
theorem Options.get_set_other (o : Options) {i j : Byte} (h : j ≠ i) (x : Word) : (o.set i x).get j = o.get j := by
  unfold Options.set
  split
  all_goals
    unfold Options.get
    split <;> trivial

theorem execSetopt_of_width {i : Byte} {x : Word} {s : State} {width : Nat}
    (hwidth : optWidth s.params i = some width) :
    execSetopt i x s = .next
      (if s.seq.isRunning then respond .protocolViolation 0#32 s
      else if x.toNat ≥ 2 ^ width then respond .protocolViolation 0#32 s
      else respond .ok 0#32 { s with opt := s.opt.set i x }) := by
  simp only [execSetopt, hwidth]

/-- Settles O52: refused for either reason, or the write of the one option. -/
theorem setoptWritesOneOption : Obligations.SetoptWritesOneOption := by
  refine ⟨fun p => rfl, fun i x s width hp hwidth => ⟨fun hseq => ?_, fun hwide => ?_, fun hseq fits => ?_⟩⟩
  · refine (execSetopt_of_width hwidth).trans ?_
    rw [if_pos ((Sequencer.isRunning_eq_true_iff _).2 hseq)]
    rfl
  · refine (execSetopt_of_width hwidth).trans ?_
    rw [if_pos hwide, ite_self]
    rfl
  · refine ⟨s.opt.set i x, (execSetopt_of_width hwidth).trans ?_, Options.get_set_same hp s.opt hwidth fits,
      fun j hj => Options.get_set_other s.opt hj x⟩
    rw [if_neg (by simp [hseq]), if_neg (by omega)]
    rfl

/-- Settles O53: each index answers its own option; a flag reads 1 or 0. -/
theorem getoptReturnsEachOption : Obligations.GetoptReturnsEachOption := by
  intro s
  simp only [← zextBit_eq_ite]
  rfl

/-! ### CONFIGURE -/

theorem configureRefused_eq_true_iff (s : State) :
    configureRefused s = true ↔
      s.seq ≠ .sIdle ∨ s.fsm ≠ .idle ∨ (s.opt.tpEnable = true ∧ 8 < s.opt.tpPattern.toNat) := by
  simp [configureRefused, maxTpPattern, BitVec.lt_def, or_assoc]

theorem configureRefused_eq_false {s : State} (hseq : s.seq = .sIdle) (hfsm : s.fsm = .idle)
    (hpattern : ¬ (s.opt.tpEnable = true ∧ 8 < s.opt.tpPattern.toNat)) : configureRefused s = false := by
  rw [← Bool.not_eq_true, configureRefused_eq_true_iff]
  rintro (hrunning | houtside | hunknown)
  · exact hrunning hseq
  · exact houtside hfsm
  · exact hpattern hunknown

/-- The state a CONFIGURE of the issuing context leaves when it is accepted (R177, R178). -/
def configureHeld (s : State) : State := hold .configure (configureStarted s)

theorem exec_configure_of_accepted {s : State} (accepted : configureRefused s = false) :
    exec .configure s = .next (configureHeld s) :=
  congrArg Host.Outcome.next (if_neg (by simp [accepted]))

/-- Settles O54: refused for one of the three reasons, else started. -/
theorem configureStartsAndHolds : Obligations.ConfigureStartsAndHolds := by
  refine fun s => ⟨fun hrefused => ?_, fun hseq hfsm hpattern => ?_⟩
  · exact congrArg Host.Outcome.next (if_pos ((configureRefused_eq_true_iff s).2 hrefused))
  · exact exec_configure_of_accepted (configureRefused_eq_false hseq hfsm hpattern)

/-! ### The transaction list -/

theorem transactions_length (p : Params) (o : Options) :
    (transactions p o).length = if o.tpEnable then 18 else 13 := by
  unfold transactions testPatternTxns
  split <;> rfl

theorem rmwValue_set_none (v clear : Half) : rmwValue v 0#16 clear = v &&& ~~~clear := BitVec.or_zero

theorem rmwValue_clear_none (v set : Half) : rmwValue v set 0#16 = v ||| set := by
  rw [rmwValue, BitVec.not_zero, BitVec.and_allOnes]

/-- Settles O56: the list is the model's own, and each write half's masks give its row's value. -/
theorem transactionListIsTheTable : Obligations.TransactionListIsTheTable := by
  intro p o
  refine ⟨fun htp => ?_, fun htp => ?_, rfl, fun v => ⟨rmwValue_set_none .., ?_, rmwValue_clear_none ..⟩⟩
  · rw [transactions_length, if_neg (by simp [htp])]
  · rw [transactions_length, if_pos htp]
  · rw [rmwValue, BitVec.or_assoc]

/-- Settles O57: the two fields do not overlap, so their packing is a sum and each is read back in its place. -/
theorem addressModeDecodesBack : Obligations.AddressModeDecodesBack := by
  have hpacked : ∀ (bin : BitVec 2) (skip : BitVec 3),
      (addrMode bin skip).toNat = 16 * bin.toNat + skip.toNat ∧ addrMode bin skip ≤ 0x37#16 ∧
        decAddrMode (addrMode bin skip) = (bin, skip) := by decide
  intro bin skip
  obtain ⟨hsum, hrange, hback⟩ := hpacked bin skip
  exact ⟨hsum, hrange, hback, fun _ => rfl⟩

end Sys2Proof.Machine

/-!
PROOFS. 43_sequencer.md: the run of the sequencer over its list. A Running sequencer ends (R190, R216); one transaction
on the bus and several, and the state in which the sequencer finishes (R193, R195).
-/
namespace Sys2Proof.Machine

/-! ### The sequencer ends -/

theorem seqFinish_seq (code : Code) (id : Byte) (s : State) : (seqFinish code id s).seq = .sIdle := by
  unfold seqFinish
  dsimp only
  split <;> rfl

/-- A transaction ends the sequence or is followed by the next one (R190). -/
theorem seqStep_seq_cases {s : State} {txns : List Txn} {k : Nat} {rmw : Half} (hseq : s.seq = .running txns k rmw)
    (hk : k < txns.length) :
    (seqStep s).seq = .sIdle ∨ (k + 1 < txns.length ∧ ∃ x, (seqStep s).seq = .running txns (k + 1) x) := by
  rw [seqStep_of_getElem? hseq (List.getElem?_eq_getElem hk)]
  obtain ⟨sr, log, e, ⟨x, hadvance⟩ | hfinish⟩ := seqTransact_cases txns k rmw txns[k] s
  · rw [hadvance]
    unfold seqAdvance
    split
    · exact .inl (seqFinish_seq ..)
    · exact .inr ⟨by omega, x, rfl⟩
  · rw [hfinish]
    exact .inl (seqFinish_seq ..)

/-- Settles O60, by induction on the number of transactions left. -/
theorem sequencerEndsWithinItsList : Obligations.SequencerEndsWithinItsList := by
  intro s txns k rmw hseq hk
  induction hleft : txns.length - k generalizing s k rmw with
  | zero => omega
  | succ n ih =>
    obtain hended | ⟨hk', x, hnext⟩ := seqStep_seq_cases hseq hk
    · exact ⟨1, by omega, hended⟩
    · obtain ⟨m, hm, hended⟩ := ih (seqStep s) (k + 1) x hnext hk' (by omega)
      exact ⟨m + 1, by omega, hended⟩

/-! ### One transaction on the bus -/

/-- The log kind of a transaction (R41): a read half reads, the others write. -/
def Txn.kind : Txn → BusKind
  | .w _ _ => .write
  | .rr _ => .read
  | .rw _ _ _ => .write

/-- What a transaction does on the bus, succeeding or not, `rmw` being the value held for a write half: the value held
after it, and the state. -/
def Txn.make (y : Txn) (rmw : Half) (s : State) : Half × State :=
  match y with
  | .w id v => (rmw, (busWrite id v s).2)
  | .rr id => ((busRead id s).1.getD rmw, (busRead id s).2)
  | .rw id set clear => (rmw, (busWrite id (rmwValue rmw set clear) s).2)

theorem busRead_fst_isSome (id : Byte) (s : State) : (busRead id s).1.isSome = s.nextBusOk := by
  unfold busRead
  dsimp only
  cases s.nextBusOk <;> rfl

/-- The sequencer's transaction is its bus traffic, then `advance` or `finish` by the success draw (R190, R194). -/
theorem seqTransact_eq (txns : List Txn) (k : Nat) (rmw : Half) (y : Txn) (s : State) :
    seqTransact txns k rmw y s =
      if s.nextBusOk then seqAdvance txns k (y.make rmw s).1 (y.make rmw s).2
      else seqFinish y.failure y.target (y.make rmw s).2 := by
  cases y with
  | w | rw => rfl
  | rr id =>
    rw [← busRead_fst_isSome id s]
    unfold seqTransact Txn.make
    dsimp only
    cases (busRead id s).1 <;> rfl

section
variable (y : Txn) (rmw : Half) (s : State)

/-- A transaction changes what bus traffic changes. -/
theorem Txn.make_withSensor : ∃ sr log e, (y.make rmw s).2 = s.withSensor sr log e := by
  cases y with
  | w id v => exact busWrite_withSensor id v s
  | rr id =>
    obtain ⟨log, e, hread⟩ := busRead_withSensor id s
    exact ⟨s.sr, log, e, hread⟩
  | rw id set clear => exact busWrite_withSensor id (rmwValue rmw set clear) s

/-- A transaction takes one success draw (R162). -/
theorem Txn.make_busOk : (y.make rmw s).2.env.busOk = s.env.busOk.tail := by
  cases y with
  | w | rr | rw =>
    unfold Txn.make busWrite busRead
    dsimp only
    split <;> rfl

/-- A transaction makes one entry in the bus log (R41). -/
theorem Txn.make_busLog :
    ∃ v, (y.make rmw s).2.busLog = s.busLog ++ [⟨y.kind, y.target, v, s.nextBusOk⟩] := by
  cases y with
  | w | rr | rw =>
    unfold Txn.make busWrite busRead
    dsimp only
    split <;> exact ⟨_, rfl⟩

/-- A transaction changes no register but the one it addresses (R160, R161). -/
theorem Txn.make_readSr_other {id : Byte} (h : id ≠ y.target) : (y.make rmw s).2.readSr id = s.readSr id := by
  cases y with
  | rr j =>
    obtain ⟨log, e, hread⟩ := busRead_withSensor j s
    show (busRead j s).2.readSr id = _
    rw [hread]
    rfl
  | w j v | rw j set clear =>
    unfold Txn.make busWrite
    dsimp only
    split
    · exact State.readSr_writeSr_other (s.withEnv s.env.takeBusOk) h _
    · exact State.readSr_writeSr_other (s.withEnv s.env.takeBusOk) h _

/-- The sequencer's own state is no part of its bus traffic. -/
theorem Txn.make_withSeq (q : Sequencer) :
    y.make rmw { s with seq := q } = ((y.make rmw s).1, { (y.make rmw s).2 with seq := q }) := by
  cases y with
  | w | rw =>
    unfold Txn.make busWrite
    dsimp only [State.nextBusOk]
    split <;> rfl
  | rr id =>
    unfold Txn.make busRead
    dsimp only [State.nextBusOk]
    cases s.env.busOk.headD (Config.freeBool s.env.drawn) <;> cases s.params.readModel <;> rfl

end

/-! ### Several transactions on the bus -/

/-- The transactions of a list, one after the other. -/
def makeAll (ys : List Txn) (rmw : Half) (s : State) : Half × State :=
  ys.foldl (fun p y => y.make p.1 p.2) (rmw, s)

theorem makeAll_cons (y : Txn) (ys : List Txn) (rmw : Half) (s : State) :
    makeAll (y :: ys) rmw s = makeAll ys (y.make rmw s).1 (y.make rmw s).2 := rfl

theorem makeAll_append (ys zs : List Txn) (rmw : Half) (s : State) :
    makeAll (ys ++ zs) rmw s = makeAll zs (makeAll ys rmw s).1 (makeAll ys rmw s).2 :=
  List.foldl_append

theorem makeAll_withSensor (ys : List Txn) (rmw : Half) (s : State) :
    ∃ sr log e, (makeAll ys rmw s).2 = s.withSensor sr log e := by
  induction ys generalizing rmw s with
  | nil => exact ⟨s.sr, s.busLog, s.env, rfl⟩
  | cons y ys ih =>
    obtain ⟨sr, log, e, hfirst⟩ := y.make_withSensor rmw s
    obtain ⟨sr', log', e', hrest⟩ := ih (y.make rmw s).1 (y.make rmw s).2
    exact ⟨sr', log', e', by rw [makeAll_cons, hrest, hfirst]; rfl⟩

theorem makeAll_busOk (ys : List Txn) (rmw : Half) (s : State) :
    (makeAll ys rmw s).2.env.busOk = s.env.busOk.drop ys.length := by
  induction ys generalizing rmw s with
  | nil => rfl
  | cons y ys ih => rw [makeAll_cons, ih, Txn.make_busOk, List.drop_tail, List.length_cons]

/-- The log records kind and identifier of each transaction, in order (R41). -/
theorem makeAll_busLog (ys : List Txn) (rmw : Half) (s : State) :
    ∃ es, (makeAll ys rmw s).2.busLog = s.busLog ++ es ∧
      es.map (fun e => (e.kind, e.id)) = ys.map (fun y => (y.kind, y.target)) := by
  induction ys generalizing rmw s with
  | nil => exact ⟨[], by simp [makeAll], rfl⟩
  | cons y ys ih =>
    obtain ⟨v, hfirst⟩ := y.make_busLog rmw s
    obtain ⟨es, hrest, hmap⟩ := ih (y.make rmw s).1 (y.make rmw s).2
    exact ⟨⟨y.kind, y.target, v, s.nextBusOk⟩ :: es, by simp [makeAll_cons, hrest, hfirst], by simp [hmap]⟩

/-- Registers outside the transactions are unchanged. -/
theorem makeAll_readSr_other {ys : List Txn} {id : Byte} (h : id ∉ ys.map Txn.target) (rmw : Half) (s : State) :
    (makeAll ys rmw s).2.readSr id = s.readSr id := by
  induction ys generalizing rmw s with
  | nil => rfl
  | cons y ys ih =>
    rw [List.map_cons, List.mem_cons, not_or] at h
    obtain ⟨hy, hys⟩ := h
    rw [makeAll_cons, ih hys, y.make_readSr_other rmw s hy]

/-- The success draw after a list's is the next (R162). -/
theorem makeAll_nextBusOk {ys : List Txn} {s : State} {ok : Bool} (h : s.env.busOk[ys.length]? = some ok)
    (rmw : Half) : (makeAll ys rmw s).2.nextBusOk = ok := by
  rw [State.nextBusOk, makeAll_busOk, List.headD_eq_head?_getD, List.head?_drop, h, Option.getD_some]

/-! ### The sequencer's run over its list -/

theorem seqFinish_withSeq (code : Code) (id : Byte) (s : State) (q : Sequencer) :
    seqFinish code id { s with seq := q } = seqFinish code id s := rfl

theorem seqAdvance_withSeq (txns : List Txn) (k : Nat) (x : Half) (s : State) (q : Sequencer) :
    seqAdvance txns k x { s with seq := q } = seqAdvance txns k x s := rfl

/-- `s` after the first `k` transactions of the list, all successful, the sequencer Running at the next (R190). -/
def atTransaction (txns : List Txn) (k : Nat) (rmw : Half) (s : State) : State :=
  { (makeAll (txns.take k) rmw s).2 with seq := .running txns k (makeAll (txns.take k) rmw s).1 }

section
variable {txns : List Txn} {k : Nat} {y : Txn} (hy : txns[k]? = some y) (rmw : Half) {s : State}
include hy

theorem makeAll_take_succ :
    makeAll (txns.take (k + 1)) rmw s = y.make (makeAll (txns.take k) rmw s).1 (makeAll (txns.take k) rmw s).2 := by
  rw [List.take_add_one, hy, makeAll_append]
  rfl

theorem makeAll_take_nextBusOk {ok : Bool} (hok : s.env.busOk[k]? = some ok) :
    (makeAll (txns.take k) rmw s).2.nextBusOk = ok := by
  obtain ⟨hk, -⟩ := List.getElem?_eq_some_iff.1 hy
  exact makeAll_nextBusOk (by rwa [List.length_take_of_le hk.le]) rmw

theorem seqStep_atTransaction {ok : Bool} (hok : s.env.busOk[k]? = some ok) :
    seqStep (atTransaction txns k rmw s) =
      if ok then seqAdvance txns k (makeAll (txns.take (k + 1)) rmw s).1 (makeAll (txns.take (k + 1)) rmw s).2
      else seqFinish y.failure y.target (makeAll (txns.take (k + 1)) rmw s).2 := by
  have hnext : (atTransaction txns k rmw s).nextBusOk = ok := makeAll_take_nextBusOk hy rmw hok
  rw [seqStep_of_getElem? (s := atTransaction txns k rmw s) rfl hy, seqTransact_eq, hnext, makeAll_take_succ hy,
    atTransaction, Txn.make_withSeq, seqAdvance_withSeq, seqFinish_withSeq]

end

/-- While its transactions succeed the sequencer goes from each to the next. -/
theorem seqStep_iterate {txns : List Txn} {rmw : Half} {s : State} (hseq : s.seq = .running txns 0 rmw) {k : Nat}
    (hk : k < txns.length) (hok : ∀ i < k, s.env.busOk[i]? = some true) :
    seqStep^[k] s = atTransaction txns k rmw s := by
  induction k with
  | zero =>
    show s = { s with seq := .running txns 0 rmw }
    rw [← hseq]
  | succ k ih =>
    have hy : txns[k]? = some txns[k] := List.getElem?_eq_getElem (by omega)
    rw [Function.iterate_succ_apply', ih (by omega) fun i hi => hok i (by omega),
      seqStep_atTransaction hy rmw (hok k (by omega)), if_pos rfl, seqAdvance, if_neg (by omega)]
    rfl

theorem configureHeld_holds {s : State} (hs : StateInv s) (accepted : configureRefused s = false) :
    HoldsConfigure (configureHeld s) s.ctx := by
  obtain ⟨-, -, -, -, hseq, -⟩ := hs.configureStarted accepted
  obtain ⟨-, -, -, c, hc, hother⟩ := hseq.of_running (s := configureHeld s) rfl
  have hctx : s.ctx = c := by
    by_contra hne
    exact hother s.ctx hne (PerCtx.get_set_same ..)
  exact hctx ▸ ⟨hc, hother⟩

section
variable {s : State} (hs : StateInv s) (accepted : configureRefused s = false) {j : Nat} {y : Txn}
  (hy : (transactions s.params s.opt)[j]? = some y) (hok : ∀ i < j, s.env.busOk[i]? = some true)
include hs accepted

theorem seqFinish_makeAll (code : Code) (id : Byte) (ys : List Txn) (rmw : Half) :
    seqFinish code id (makeAll ys rmw (configureHeld s)).2 =
      finished s.ctx code id (makeAll ys rmw (configureHeld s)).2 := by
  apply seqFinish_of_holds
  obtain ⟨sr, log, e, hmade⟩ := makeAll_withSensor ys rmw (configureHeld s)
  rw [hmade]
  exact (configureHeld_holds hs accepted).withSensor sr log e

include hy hok

/-- A transaction fails, the first to do so: the sequencer finishes with its error and identifier (R193, R194). -/
theorem seqStep_iterate_fail (hfail : s.env.busOk[j]? = some false) :
    seqStep^[j + 1] (configureHeld s) = finished s.ctx y.failure y.target
      (makeAll ((transactions s.params s.opt).take (j + 1)) 0#16 (configureHeld s)).2 := by
  obtain ⟨hj, -⟩ := List.getElem?_eq_some_iff.1 hy
  rw [Function.iterate_succ_apply', seqStep_iterate (s := configureHeld s) rfl hj hok,
    seqStep_atTransaction (s := configureHeld s) hy _ hfail, if_neg (by simp), seqFinish_makeAll hs accepted]

/-- The last transaction succeeds, as all before it did: the sequencer finishes with OK (R190, R195). -/
theorem seqStep_iterate_ok (hlast : s.env.busOk[j]? = some true) (hj : j + 1 = (transactions s.params s.opt).length) :
    seqStep^[j + 1] (configureHeld s) = finished s.ctx .ok 0#8
      (makeAll (transactions s.params s.opt) 0#16 (configureHeld s)).2 := by
  rw [Function.iterate_succ_apply', seqStep_iterate (s := configureHeld s) rfl (by omega) hok,
    seqStep_atTransaction (s := configureHeld s) hy _ hlast, if_pos rfl, seqAdvance, if_pos hj,
    seqFinish_makeAll hs accepted, List.take_of_length_le hj.ge]

end

@[simp] theorem finished_readSr (c : Ctx) (code : Code) (id : Byte) (s : State) (j : Byte) :
    (finished c code id s).readSr j = s.readSr j := rfl

@[simp] theorem finished_busLog (c : Ctx) (code : Code) (id : Byte) (s : State) :
    (finished c code id s).busLog = s.busLog := rfl

/-- What `finish` leaves of the slot and the responses after the transactions of a held CONFIGURE (R195). -/
theorem finished_makeAll_port (code : Code) (id : Byte) (ys : List Txn) (rmw : Half) (s : State) :
    (finished s.ctx code id (makeAll ys rmw (configureHeld s)).2).slot.get s.ctx = none ∧
    (finished s.ctx code id (makeAll ys rmw (configureHeld s)).2).responses =
      s.responses.set s.ctx (s.responses.get s.ctx ++ [⟨code, id.setWidth 32⟩]) := by
  obtain ⟨sr, log, e, hmade⟩ := makeAll_withSensor ys rmw (configureHeld s)
  rw [hmade]
  exact ⟨PerCtx.get_set_same .., rfl⟩

end Sys2Proof.Machine

/-!
PROOFS. 43_sequencer.md: the transaction list as settings of registers, and the two ends of a CONFIGURE: every transaction
a success (R195, R196, R198), or one the first to fail (R193, R194).
-/
namespace Sys2Proof.Machine

/-! ### The list as settings of registers -/

/-- One register set by the sequence: written whole, or read, modified and written (R180). -/
inductive Setting where
  | write (id : Byte) (value : Half)
  | modify (id : Byte) (set clear : Half)

/-- The register a setting addresses. -/
def Setting.id : Setting → Byte
  | .write id _ => id
  | .modify id _ _ => id

/-- The value a setting leaves where `v` was. -/
def Setting.apply (v : Half) : Setting → Half
  | .write _ value => value
  | .modify _ set clear => rmwValue v set clear

/-- The transactions of a setting (R181). -/
def Setting.txns : Setting → List Txn
  | .write id value => [.w id value]
  | .modify id set clear => [.rr id, .rw id set clear]

/-- The transactions of several settings, in order. -/
def settingsTxns (gs : List Setting) : List Txn := gs.flatMap Setting.txns

/-- The test pattern's settings (R181 rows 12 to 16). -/
def testPatternSettings (p : Params) (o : Options) : List Setting :=
  if o.tpEnable then
    [.write p.regTpCtrl (p.tpEnMask ||| (o.tpPattern.setWidth 16 <<< p.tpModeLsb)),
     .write p.regTpRed o.tpRed,
     .write p.regTpGreen o.tpGreen,
     .write p.regTpBlue o.tpBlue,
     .write p.regTpBarWidth o.tpBarWidth]
  else []

/-- The settings of the picture and the pixel clock (R181 rows 1 to 11). -/
def pictureSettings (p : Params) (o : Options) : List Setting :=
  [.write p.regRowSize o.rowSize,
   .write p.regColSize o.colSize,
   .write p.regShutterLower (shutterLower o.shutter),
   .write p.regShutterUpper (shutterUpper o.shutter),
   .write p.regRowAddrMode (addrMode o.rowBin o.rowSkip),
   .write p.regColAddrMode (addrMode o.colBin o.colSkip),
   .modify p.regReadMode1 0#16 p.snapshotMask,
   .modify p.regReadMode2 (maskIf o.mirrorRow p.rowMirrorMask ||| maskIf o.mirrorCol p.colMirrorMask)
     (p.rowMirrorMask ||| p.colMirrorMask),
   .write p.regPixclk (maskIf o.pixclkInv p.pixclkInvMask ||| (o.pixclkDiv <<< p.pixclkDivLsb))]

/-- The settings before the chip-enable one (R181, R196). -/
def frontSettings (p : Params) (o : Options) : List Setting := pictureSettings p o ++ testPatternSettings p o

/-- The settings of `transactions(OPT)`, the chip-enable one last (R196). -/
def settings (p : Params) (o : Options) : List Setting :=
  frontSettings p o ++ [.modify p.regOutputControl chipEnableMask 0#16]

theorem transactions_eq_settingsTxns (p : Params) (o : Options) : transactions p o = settingsTxns (settings p o) := by
  unfold transactions testPatternTxns settings frontSettings pictureSettings testPatternSettings
  split <;> rfl

/-- The chip-enable write is the list's last transaction (R196). -/
theorem transactions_eq_append_last (p : Params) (o : Options) :
    transactions p o = settingsTxns (frontSettings p o) ++ [.rr p.regOutputControl] ++
      [.rw p.regOutputControl chipEnableMask 0#16] := by
  rw [transactions_eq_settingsTxns, settings, settingsTxns, List.flatMap_append, List.append_assoc]
  rfl

theorem Params.sensorIds_nodup {p : Params} (h : p.wf = true) : p.sensorIds.Nodup := by
  simp only [Params.wf, Bool.and_eq_true, decide_eq_true_eq] at h
  tauto

/-- Each register is set once, the identifiers being distinct (R8). -/
theorem settings_nodup {p : Params} (h : p.wf = true) (o : Options) : ((settings p o).map Setting.id).Nodup := by
  refine (Params.sensorIds_nodup h).sublist ?_
  unfold settings frontSettings pictureSettings testPatternSettings Params.sensorIds
  split <;> simp [Setting.id]

theorem Setting.target_of_mem_txns {g : Setting} {y : Txn} (h : y ∈ g.txns) : y.target = g.id := by
  cases g with
  | write id v =>
    obtain rfl : y = .w id v := by simpa [Setting.txns] using h
    rfl
  | modify id a c =>
    obtain rfl | rfl : y = .rr id ∨ y = .rw id a c := by simpa [Setting.txns] using h
    · rfl
    · rfl

theorem mem_settingsTxns_targets {gs : List Setting} {id : Byte} (h : id ∈ (settingsTxns gs).map Txn.target) :
    id ∈ gs.map Setting.id := by
  obtain ⟨y, hy, rfl⟩ := List.mem_map.1 h
  obtain ⟨g, hg, hyg⟩ := List.mem_flatMap.1 hy
  rw [Setting.target_of_mem_txns hyg]
  exact List.mem_map_of_mem hg

/-! ### What the settings leave in the sensor -/

theorem readSr_busWrite_ok {id : Byte} {v : Half} {s : State} (hok : s.nextBusOk = true) :
    (busWrite id v s).2.readSr id = v := by
  rw [busWrite_ok hok]
  exact State.readSr_writeSr_same (s.withEnv s.env.takeBusOk) id v

/-- In the Stored model a setting whose transactions succeed leaves its value (R160, R163). -/
theorem Setting.readSr_makeAll {g : Setting} {s : State} (hstored : s.params.readModel = .stored)
    (hok : ∀ i < g.txns.length, s.env.busOk[i]? = some true) (rmw : Half) :
    (makeAll g.txns rmw s).2.readSr g.id = g.apply (s.readSr g.id) := by
  cases g with
  | write id v => exact readSr_busWrite_ok (makeAll_nextBusOk (ys := []) (hok 0 (by simp [Setting.txns])) rmw)
  | modify id a c =>
    have hread : (makeAll [.rr id] rmw s).1 = s.readSr id := by
      have hfirst : s.nextBusOk = true := makeAll_nextBusOk (ys := []) (hok 0 (by simp [Setting.txns])) rmw
      show (busRead id s).1.getD rmw = _
      rw [busRead_stored hfirst hstored, Option.getD_some]
    show (busWrite id (rmwValue (makeAll [.rr id] rmw s).1 a c) (makeAll [.rr id] rmw s).2).2.readSr id = _
    rw [readSr_busWrite_ok (makeAll_nextBusOk (hok 1 (by simp [Setting.txns])) rmw), hread]
    rfl

theorem makeAll_params (ys : List Txn) (rmw : Half) (s : State) : (makeAll ys rmw s).2.params = s.params := by
  obtain ⟨sr, log, e, hmade⟩ := makeAll_withSensor ys rmw s
  rw [hmade]
  rfl

/-- In the Stored model settings of distinct registers, all transactions succeeding, leave each its value. -/
theorem readSr_makeAll_settings {gs : List Setting} (hnodup : (gs.map Setting.id).Nodup) {s : State}
    (hstored : s.params.readModel = .stored) (hok : ∀ i < (settingsTxns gs).length, s.env.busOk[i]? = some true)
    (rmw : Half) {g : Setting} (hg : g ∈ gs) :
    (makeAll (settingsTxns gs) rmw s).2.readSr g.id = g.apply (s.readSr g.id) := by
  induction gs generalizing rmw s with
  | nil => cases hg
  | cons f gs ih =>
    obtain ⟨hf, hnodup⟩ := List.nodup_cons.1 hnodup
    rw [settingsTxns, List.flatMap_cons, List.length_append] at hok
    rw [settingsTxns, List.flatMap_cons, makeAll_append]
    obtain rfl | hg := List.mem_cons.1 hg
    · exact (makeAll_readSr_other (fun hid => hf (mem_settingsTxns_targets hid)) ..).trans
        (Setting.readSr_makeAll hstored (fun i hi => hok i (by omega)) rmw)
    · have hother : g.id ∉ f.txns.map Txn.target := by
        intro hid
        obtain ⟨y, hy, hyg⟩ := List.mem_map.1 hid
        exact hf (Setting.target_of_mem_txns hy ▸ hyg ▸ List.mem_map_of_mem hg)
      have hrest (i : Nat) (hi : i < (settingsTxns gs).length) :
          (makeAll f.txns rmw s).2.env.busOk[i]? = some true := by
        rw [makeAll_busOk, List.getElem?_drop]
        exact hok _ (by unfold settingsTxns at hi; omega)
      exact (ih hnodup (by rwa [makeAll_params]) hrest _ hg).trans
        (congrArg (Setting.apply · g) (makeAll_readSr_other hother rmw s))

/-- A write transaction that succeeds logs the value its register then holds (R41, R160). -/
theorem makeAll_busLog_getLast? {ys : List Txn} {s : State} (hok : s.env.busOk[ys.length]? = some true) (rmw : Half)
    (id : Byte) (set clear : Half) :
    (makeAll (ys ++ [.rw id set clear]) rmw s).2.busLog.getLast? =
      some ⟨.write, id, (makeAll (ys ++ [.rw id set clear]) rmw s).2.readSr id, true⟩ := by
  have hnext := makeAll_nextBusOk hok rmw
  rw [makeAll_append]
  show (busWrite id _ _).2.busLog.getLast? = some ⟨_, _, (busWrite id _ _).2.readSr id, _⟩
  rw [readSr_busWrite_ok hnext, busWrite_ok hnext, State.logBus_busLog, List.getLast?_append]
  rfl

theorem makeAll_busLog_length (ys : List Txn) (rmw : Half) (s : State) :
    (makeAll ys rmw s).2.busLog.length = s.busLog.length + ys.length := by
  obtain ⟨es, hlog, hmap⟩ := makeAll_busLog ys rmw s
  have hlength : es.length = ys.length := by simpa using congrArg List.length hmap
  rw [hlog, List.length_append, hlength]

/-! ### CONFIGURE, to its end -/

/-- With every transaction a success in the Stored model, each setting's register holds its value at the end (R198). -/
theorem readSr_makeAll_transactions {s : State} (hs : StateInv s) (hstored : s.params.readModel = .stored)
    (hok : ∀ i < (transactions s.params s.opt).length, s.env.busOk[i]? = some true) {g : Setting}
    (hg : g ∈ settings s.params s.opt) :
    (makeAll (transactions s.params s.opt) 0#16 (configureHeld s)).2.readSr g.id = g.apply (s.readSr g.id) := by
  obtain ⟨hparams, -⟩ := hs
  rw [transactions_eq_settingsTxns] at hok ⊢
  exact readSr_makeAll_settings (s := configureHeld s) (settings_nodup hparams s.opt) hstored hok _ hg

/-- The last entry of the log is then the chip-enable write, with the value its register holds (R196). -/
theorem makeAll_transactions_getLast? {s : State}
    (hok : ∀ i < (transactions s.params s.opt).length, s.env.busOk[i]? = some true) :
    (makeAll (transactions s.params s.opt) 0#16 (configureHeld s)).2.busLog.getLast? =
      some ⟨.write, s.params.regOutputControl,
        (makeAll (transactions s.params s.opt) 0#16 (configureHeld s)).2.readSr s.params.regOutputControl, true⟩ := by
  rw [transactions_eq_append_last] at hok ⊢
  exact makeAll_busLog_getLast? (s := configureHeld s) (hok _ (by simp)) ..

/-- The draws that a supply beginning with `n` successes gives. -/
theorem getElem?_of_take_eq_replicate_append {draws rest : List Bool} {n : Nat}
    (h : draws.take (n + rest.length) = List.replicate n true ++ rest) {i : Nat} (hi : i < n) :
    draws[i]? = some true := by
  rw [← List.getElem?_take_of_lt (show i < n + rest.length by omega), h,
    List.getElem?_append_left (by simpa using hi), List.getElem?_replicate_of_lt hi]

/-- Settles O58: the sequencer finishes with OK after its list, whose settings give the registers and whose last
transaction is the chip-enable write. -/
theorem successfulConfigureEndState : Obligations.SuccessfulConfigureEndState := by
  intro s hs hstored hseq hfsm hpattern hdraws
  have accepted := configureRefused_eq_false hseq hfsm fun ⟨htp, hcode⟩ => (hpattern htp).not_gt hcode
  have hok (i : Nat) (hi : i < (transactions s.params s.opt).length) : s.env.busOk[i]? = some true :=
    getElem?_of_take_eq_replicate_append (rest := []) (by simpa using hdraws) hi
  obtain ⟨n, hn⟩ : ∃ n, n + 1 = (transactions s.params s.opt).length :=
    ⟨_, Nat.sub_add_cancel (transactions_length_pos ..)⟩
  have hend := seqStep_iterate_ok hs accepted (List.getElem?_eq_getElem (by omega))
    (fun i hi => hok i (by omega)) (hok n (by omega)) hn
  rw [hn] at hend
  refine ⟨configureHeld s, _, exec_configure_of_accepted accepted, hend.symm, rfl, rfl, ?_⟩
  obtain ⟨hslot, hresponses⟩ := finished_makeAll_port .ok 0#8 (transactions s.params s.opt) 0#16 s
  have hwritten {id : Byte} {v : Half} (hg : .write id v ∈ settings s.params s.opt) :
      (makeAll (transactions s.params s.opt) 0#16 (configureHeld s)).2.readSr id = v :=
    readSr_makeAll_transactions (g := .write id v) hs hstored hok hg
  have hmodified {id : Byte} {set clear : Half} (hg : .modify id set clear ∈ settings s.params s.opt) :
      (makeAll (transactions s.params s.opt) 0#16 (configureHeld s)).2.readSr id =
        rmwValue (s.readSr id) set clear :=
    readSr_makeAll_transactions (g := .modify id set clear) hs hstored hok hg
  have hsnapshot := hmodified (id := s.params.regReadMode1) (set := 0#16) (clear := s.params.snapshotMask)
    (by simp [settings, frontSettings, pictureSettings])
  have hchip := hmodified (id := s.params.regOutputControl) (set := chipEnableMask) (clear := 0#16)
    (by simp [settings])
  rw [rmwValue_set_none] at hsnapshot
  rw [rmwValue_clear_none] at hchip
  have hlast := makeAll_transactions_getLast? hok
  rw [hchip] at hlast
  simp only [finished_readSr, finished_busLog]
  refine ⟨hslot, hresponses, hwritten ?_, hwritten ?_, hwritten ?_, hwritten ?_, hwritten ?_, hwritten ?_,
    hsnapshot, hmodified ?_, hwritten ?_, fun htp => ?pattern, hchip, fun id hid => makeAll_readSr_other hid ..,
    makeAll_busLog_length .., hlast⟩
  case pattern =>
    refine ⟨hwritten ?_, hwritten ?_, hwritten ?_, hwritten ?_, hwritten ?_⟩
    all_goals simp [settings, frontSettings, testPatternSettings, htp]
  all_goals simp [settings, frontSettings, pictureSettings, shutterLower, shutterUpper, maskIf]

/-- Of the transactions before the last none writes the chip-enable register (R196). -/
theorem kind_eq_read_or_target_ne_of_mem_take {p : Params} (hp : p.wf = true) (o : Options) {j : Nat}
    (hj : j < (transactions p o).length) {y : Txn} (hy : y ∈ (transactions p o).take j) :
    y.kind = .read ∨ y.target ≠ p.regOutputControl := by
  rw [transactions_eq_append_last] at hj hy
  rw [List.length_append, List.length_singleton] at hj
  rw [List.take_append_of_le_length (by omega)] at hy
  obtain hfront | hread := List.mem_append.1 (List.mem_of_mem_take hy)
  · refine .inr fun htarget => ?_
    have hnodup := settings_nodup hp o
    rw [settings, List.map_append, List.nodup_append] at hnodup
    obtain ⟨-, -, hdisjoint⟩ := hnodup
    have hmem := mem_settingsTxns_targets (List.mem_map_of_mem hfront)
    exact hdisjoint _ hmem _ (by simp [Setting.id]) htarget
  · obtain rfl := List.mem_singleton.1 hread
    exact .inl rfl

/-- With transaction `j` the first to fail, the log shows no successful chip-enable write (R193, R196). -/
theorem no_chipEnable_write_of_fail {s : State} (hs : StateInv s) {j : Nat} {y : Txn}
    (hy : (transactions s.params s.opt)[j]? = some y) (hfail : s.env.busOk[j]? = some false) {e : BusEntry}
    (he : e ∈ (makeAll ((transactions s.params s.opt).take (j + 1)) 0#16 (configureHeld s)).2.busLog.drop
      s.busLog.length) :
    ¬ (e.kind = .write ∧ e.id = s.params.regOutputControl ∧ e.ok = true) := by
  obtain ⟨hj, -⟩ := List.getElem?_eq_some_iff.1 hy
  obtain ⟨hparams, -⟩ := hs
  obtain ⟨es, hbefore, hmap⟩ := makeAll_busLog ((transactions s.params s.opt).take j) 0#16 (configureHeld s)
  obtain ⟨v, hlast⟩ := y.make_busLog (makeAll ((transactions s.params s.opt).take j) 0#16 (configureHeld s)).1
    (makeAll ((transactions s.params s.opt).take j) 0#16 (configureHeld s)).2
  rw [makeAll_take_succ hy, hlast, hbefore, makeAll_take_nextBusOk (s := configureHeld s) hy _ hfail,
    List.append_assoc, show (configureHeld s).busLog = s.busLog from rfl, List.drop_left, List.mem_append,
    List.mem_singleton] at he
  rintro ⟨hkind, hid, hok⟩
  obtain he | rfl := he
  · have hentry : (e.kind, e.id) ∈ ((transactions s.params s.opt).take j).map fun z => (z.kind, z.target) :=
      hmap ▸ List.mem_map_of_mem he
    obtain ⟨z, hz, hze⟩ := List.mem_map.1 hentry
    obtain ⟨hzkind, hztarget⟩ := Prod.mk.inj hze
    obtain hread | hother := kind_eq_read_or_target_ne_of_mem_take hparams s.opt hj hz
    · rw [← hzkind, hread] at hkind
      cases hkind
    · exact hother (hztarget.trans hid)
  · cases hok

/-- Settles O59: the sequencer finishes with the failing transaction's error, having made the transactions up to it. -/
theorem firstFailureEndsTheSequence : Obligations.FirstFailureEndsTheSequence := by
  intro s j y hs hseq hfsm hpattern hy hdraws
  have accepted := configureRefused_eq_false hseq hfsm fun ⟨htp, hcode⟩ => (hpattern htp).not_gt hcode
  have hok (i : Nat) (hi : i < j) : s.env.busOk[i]? = some true :=
    getElem?_of_take_eq_replicate_append (rest := [false]) hdraws hi
  have hfail : s.env.busOk[j]? = some false := by
    rw [← List.getElem?_take_of_lt (Nat.lt_succ_self j), hdraws]
    simp
  obtain ⟨hj, -⟩ := List.getElem?_eq_some_iff.1 hy
  have hend := seqStep_iterate_fail hs accepted hy hok hfail
  obtain ⟨hslot, hresponses⟩ :=
    finished_makeAll_port y.failure y.target ((transactions s.params s.opt).take (j + 1)) 0#16 s
  refine ⟨configureHeld s, _, exec_configure_of_accepted accepted, hend.symm, rfl, ?_, hslot, hresponses, ?_⟩
  · cases y <;> rfl
  · have hlength := makeAll_busLog_length ((transactions s.params s.opt).take (j + 1)) 0#16 (configureHeld s)
    rw [List.length_take_of_le hj] at hlength
    simp only [finished_readSr, finished_busLog]
    exact ⟨hlength, seqStep_of_sIdle rfl, fun e he => no_chipEnable_write_of_fail hs hy hfail he,
      fun id hid => makeAll_readSr_other hid ..⟩

end Sys2Proof.Machine

/-!
PROOFS. 60_exceptions.md: how a command is answered (R210 to R213, R215, R216), and what sets and clears PEND (R220,
R222).
-/
namespace Sys2Proof.Machine

/-! ### One response or a hold -/

/-- No command stops the machine (R214, R219). -/
theorem exec_next (i : Instr) (s : State) : ∃ t, exec i s = .next t := by
  cases i <;> exact ⟨_, rfl⟩

/-- Settles O25: what a command can do, with the slot and the responses as each of the three cases leaves them. -/
theorem everyCommandRespondsOnceOrHolds : Obligations.EveryCommandRespondsOnceOrHolds := by
  refine ⟨fun i s => ?_, rfl, rfl, rfl, rfl, rfl, rfl, rfl⟩
  obtain ⟨t, ht⟩ := exec_next i s
  refine ⟨t, ht, ?_⟩
  obtain ⟨u, code, data, heffect, rfl⟩ | ⟨τ, e, rfl, rfl⟩ | ⟨rfl, -, rfl⟩ := exec_cases ht
  · obtain ⟨hslot, hresponses, hctx⟩ := heffect.port_kept
    rw [respond_responses, respond_slot, hslot, hresponses, hctx]
    exact .inl ⟨⟨code, data⟩, rfl, rfl⟩
  · exact .inr ⟨rfl, .inl ⟨τ, rfl, rfl⟩⟩
  · exact .inr ⟨rfl, .inr ⟨rfl, rfl⟩⟩

/-! ### Illegal words -/

/-- An empty slot takes the head of its context's stream (R40, R226). -/
theorem step_of_issue {s : State} {c : Ctx} {w : CmdWord} {rest : List CmdWord} (hagent : s.nextAgent = .port c)
    (hslot : s.slot.get c = none) (hstream : s.stream.get c = w :: rest) :
    step s = runWord w (issue c rest (s.withEnv s.env.takeAgent)) := by
  rw [step_of_nextAgent hagent]
  simp only [agentStep, portStep, hslot, hstream]
  rfl

/-- Settles O7: the word is taken and answered; its context's slot was empty and stays so. -/
theorem illegalWordStepChangesNothing : Obligations.IllegalWordStepChangesNothing := by
  intro s c w rest e hagent hslot hstream hdecode
  refine ⟨_, (step_of_issue hagent hslot hstream).trans (runWord_of_error hdecode _), rfl, ?_, rfl, rfl⟩
  show s.slot.set c none = s.slot
  rw [← hslot, PerCtx.set_get]

/-! ### Refusals -/

/-- The commands that can be refused (R213). -/
def Refusable (i : Instr) : Prop :=
  (∃ b, i = .arm b) ∨ (∃ n, i = .harvest n) ∨ (∃ id v, i = .sregWr id v) ∨ (∃ id, i = .sregRd id) ∨
  (∃ id a b, i = .sregRmw id a b) ∨ (∃ k x, i = .setopt k x) ∨ i = .configure

/-- `Verdict s i t`: at `t` command `i`, run at `s`, is refused with nothing changed, answered with another code, or not
answered. -/
inductive Verdict (s : State) (i : Instr) : State → Prop
  | refused (refusable : Refusable i) : Verdict s i (respond .protocolViolation 0#32 s)
  | answered {code : Code} (data : Word) (u : State) (other : code ≠ .protocolViolation) :
      Verdict s i (respond code data u)
  | held {t : State} (unanswered : t.responses = s.responses) : Verdict s i t

theorem execArm_verdict {b : Word} {s t : State} (h : execArm b s = .next t) : Verdict s (.arm b) t := by
  cases h
  split
  · exact .refused (by simp [Refusable])
  · exact .answered _ _ nofun

theorem execHarvest_verdict {n : Word} {s t : State} (h : execHarvest n s = .next t) : Verdict s (.harvest n) t := by
  cases h
  split
  · exact .refused (by simp [Refusable])
  · exact .answered _ _ nofun

theorem execWaitFrame_verdict {τ : Word} {s t : State} (h : execWaitFrame τ s = .next t) :
    Verdict s (.waitFrame τ) t := by
  cases h
  split
  · exact .answered _ _ nofun
  · split
    · exact .answered _ _ nofun
    · split
      · exact .held rfl
      · split
        · exact .answered _ _ nofun
        · exact .held rfl

theorem execDiag_verdict {item : Byte} {s t : State} (h : execDiag item s = .next t) : Verdict s (.diag item) t := by
  cases h
  split <;> exact .answered _ _ nofun

theorem execSregWr_verdict {id : Byte} {v : Half} {s t : State} (h : execSregWr id v s = .next t) :
    Verdict s (.sregWr id v) t := by
  cases h
  dsimp only
  split
  · exact .refused (by simp [Refusable])
  · split <;> exact .answered _ _ nofun

theorem execSregRd_verdict {id : Byte} {s t : State} (h : execSregRd id s = .next t) : Verdict s (.sregRd id) t := by
  cases h
  dsimp only
  split
  · exact .refused (by simp [Refusable])
  · split <;> exact .answered _ _ nofun

theorem execSregRmw_verdict {id : Byte} {set clear : Half} {s t : State} (h : execSregRmw id set clear s = .next t) :
    Verdict s (.sregRmw id set clear) t := by
  cases h
  dsimp only
  split
  · exact .refused (by simp [Refusable])
  · split
    · exact .answered _ _ nofun
    · split <;> exact .answered _ _ nofun

theorem execSetopt_verdict {k : Byte} {x : Word} {s t : State} (h : execSetopt k x s = .next t) :
    Verdict s (.setopt k x) t := by
  cases h
  split
  · exact .answered _ _ nofun
  · split
    · exact .refused (by simp [Refusable])
    · split
      · exact .refused (by simp [Refusable])
      · exact .answered _ _ nofun

theorem execConfigure_verdict {s t : State} (h : execConfigure s = .next t) : Verdict s .configure t := by
  cases h
  split
  · exact .refused (by simp [Refusable])
  · exact .held rfl

theorem execGetopt_verdict {k : Byte} {s t : State} (h : execGetopt k s = .next t) : Verdict s (.getopt k) t := by
  cases h
  split <;> exact .answered _ _ nofun

theorem exec_verdict {i : Instr} {s t : State} (h : exec i s = .next t) : Verdict s i t := by
  cases i with
  | regRd | regWr | enable | disable | enableRx | disableRx | setIrqEn | frameReady | setTarget | getTarget | ack =>
    cases h
    exact .answered _ _ nofun
  | arm b => exact execArm_verdict h
  | harvest n => exact execHarvest_verdict h
  | waitFrame τ => exact execWaitFrame_verdict h
  | diag item => exact execDiag_verdict h
  | sregWr id v => exact execSregWr_verdict h
  | sregRd id => exact execSregRd_verdict h
  | sregRmw id set clear => exact execSregRmw_verdict h
  | setopt k x => exact execSetopt_verdict h
  | configure => exact execConfigure_verdict h
  | getopt k => exact execGetopt_verdict h

/-- The response delivered is the last one its context has. -/
theorem respond_getLast? (code : Code) (data : Word) (s : State) :
    ((respond code data s).responses.get s.ctx).getLast? = some ⟨code, data⟩ := by
  simp

/-- Settles O23: of the three verdicts only a refusal leaves a PROTOCOL_VIOLATION as the last response. -/
theorem protocolViolationChangesNothing : Obligations.ProtocolViolationChangesNothing := by
  intro i s t d h hviolation
  have hctx : t.ctx = s.ctx := congrArg Surroundings.ctx (exec_surroundings h)
  have hlast : (t.responses.get t.ctx).getLast? = some ⟨.protocolViolation, d⟩ := by
    rw [hctx, hviolation, List.getLast?_concat]
  cases exec_verdict h with
  | refused hrefusable =>
    cases (respond_getLast? ..).symm.trans hlast
    exact ⟨rfl, rfl, hrefusable⟩
  | answered data u hother =>
    cases (respond_getLast? ..).symm.trans hlast
    exact absurd rfl hother
  | held hunanswered => simp [hunanswered] at hviolation

/-! ### What clears PEND -/

/-- The commands that clear PEND (R222): a write to the status register's bit, ACK, an FP write that acknowledges, and
ARM and HARVEST, which acknowledge when they are accepted. -/
def ClearsPend (s : State) (i : Instr) : Prop :=
  (∃ d, i = .regWr .irqStatus d ∧ d.getLsbD 0 = true) ∨ i = .ack ∨
  (s.params.fpWriteAcks = true ∧ ((∃ a, i = .setTarget a) ∨ ∃ d, i = .regWr .framePtr d)) ∨
  (∃ b, i = .arm b) ∨ (∃ n, i = .harvest n)

theorem writeFp_pend_of_acks {s : State} (hacks : s.params.fpWriteAcks = true) (v : Word) :
    (writeFp v s).pend = false := by
  simp [hacks]

theorem writeFp_pend_kept_or_acks (v : Word) (s : State) :
    (writeFp v s).pend = s.pend ∨ ((writeFp v s).pend = false ∧ s.params.fpWriteAcks = true) := by
  cases hacks : s.params.fpWriteAcks with
  | true => exact .inr ⟨writeFp_pend_of_acks hacks v, rfl⟩
  | false => exact .inl (by simp [hacks])

theorem writeCtrlReg_irqStatus_pend_of_bit {d : Word} (hd : d.getLsbD 0 = true) (s : State) :
    (writeCtrlReg .irqStatus d s).pend = false := by
  simp [writeCtrlReg_irqStatus, hd]

/-- REG_WR keeps PEND, or clears it by bit 0 of IRQ_STATUS or by an acknowledging FP write. -/
theorem writeCtrlReg_pend_kept_or_cleared (o : CtrlReg) (d : Word) (s : State) :
    (writeCtrlReg o d s).pend = s.pend ∨ ((writeCtrlReg o d s).pend = false ∧ ClearsPend s (.regWr o d)) := by
  cases o with
  | ctrl | irqMask => exact .inl rfl
  | irqStatus =>
    cases hd : d.getLsbD 0 with
    | true => exact .inr ⟨writeCtrlReg_irqStatus_pend_of_bit hd s, .inl ⟨d, rfl, hd⟩⟩
    | false => exact .inl (by rw [writeCtrlReg_irqStatus, hd, Bool.not_false, Bool.and_true])
  | framePtr =>
    obtain hkept | ⟨hclear, hacks⟩ := writeFp_pend_kept_or_acks d s
    · exact .inl hkept
    · exact .inr ⟨hclear, .inr (.inr (.inl ⟨hacks, .inr ⟨d, rfl⟩⟩))⟩

theorem CommandEffect.pend_kept_or_cleared {s u : State} {i : Instr} (h : CommandEffect s i u) :
    u.pend = s.pend ∨ (u.pend = false ∧ ClearsPend s i) := by
  cases h with
  | regWr o d => exact writeCtrlReg_pend_kept_or_cleared o d s
  | setTarget a =>
    obtain hkept | ⟨hclear, hacks⟩ := writeFp_pend_kept_or_acks a s
    · exact .inl hkept
    · exact .inr ⟨hclear, .inr (.inr (.inl ⟨hacks, .inl ⟨a, rfl⟩⟩))⟩
  | ack => exact .inr ⟨rfl, .inr (.inl rfl)⟩
  | arm b => exact .inr ⟨rfl, .inr (.inr (.inr (.inl ⟨b, rfl⟩)))⟩
  | harvest n => exact .inr ⟨rfl, .inr (.inr (.inr (.inr ⟨n, rfl⟩)))⟩
  | _ => exact .inl rfl

/-- A command keeps PEND, or it is one of R222's list and clears it. -/
theorem exec_pend_kept_or_cleared {i : Instr} {s t : State} (h : exec i s = .next t) :
    t.pend = s.pend ∨ (t.pend = false ∧ ClearsPend s i) := by
  obtain ⟨u, code, data, heffect, rfl⟩ | ⟨τ, e, -, rfl⟩ | ⟨-, -, rfl⟩ := exec_cases h
  · exact heffect.pend_kept_or_cleared
  · exact .inl rfl
  · exact .inl rfl

/-- ARM and HARVEST acknowledge when accepted, and change no state of the block when refused (R131, R135). -/
theorem exec_arm_or_harvest_pend {b : Word} {s t : State}
    (h : exec (.arm b) s = .next t ∨ exec (.harvest b) s = .next t) : t.pend = false ∨ SameBlock s t := by
  obtain harm | hharvest := h
  · obtain ⟨u, code, data, heffect, rfl⟩ := execArm_answers harm
    cases heffect with
    | draws => exact .inr rfl
    | arm => exact .inl rfl
  · obtain ⟨u, code, data, heffect, rfl⟩ := execHarvest_answers hharvest
    cases heffect with
    | draws => exact .inr rfl
    | harvest => exact .inl rfl

/-! ### PEND under the other agents -/

/-- The engine keeps PEND, or sets it by COMPLETE (R154). -/
theorem engineStep_pend_kept_or_set {s t : State} (h : engineStep s = .next t) :
    t.pend = s.pend ∨ (t.pend = true ∧ ∃ base, s.eng = .capturing base framePixels) := by
  obtain ⟨-, -, -, rfl⟩ | ⟨base, n, -, -, rfl⟩ | ⟨base, heng, rfl⟩ | rfl := engineStep_cases h
  · exact .inl rfl
  · exact .inl rfl
  · exact .inr ⟨rfl, base, heng⟩
  · exact .inl rfl

theorem seqFinish_pend (code : Code) (id : Byte) (s : State) : (seqFinish code id s).pend = s.pend := by
  unfold seqFinish
  dsimp only
  split <;> rfl

theorem seqAdvance_pend (txns : List Txn) (k : Nat) (x : Half) (s : State) :
    (seqAdvance txns k x s).pend = s.pend := by
  unfold seqAdvance
  split
  · exact seqFinish_pend ..
  · rfl

theorem seqStep_pend (s : State) : (seqStep s).pend = s.pend := by
  obtain ⟨txns, k, rmw, y, -, -, hstep⟩ | hstep := seqStep_cases s
  · rw [hstep]
    obtain ⟨sr, log, e, ⟨x, hadvance⟩ | hfinish⟩ := seqTransact_cases txns k rmw y s
    · rw [hadvance]
      exact seqAdvance_pend ..
    · rw [hfinish]
      exact seqFinish_pend ..
  · rw [hstep]

/-- The host keeps PEND, or clears it by the reset event (R240). -/
theorem hostAct_pend_kept_or_reset (s : State) (a : HostAct) :
    (hostAct a s).pend = s.pend ∨ (a = .reset ∧ (hostAct a s).pend = false) := by
  cases a with
  | reset => exact .inr ⟨rfl, rfl⟩
  | memWrite | memRead => exact .inl rfl

/-- Settles O17: a command that does not keep PEND is of the list, and the list's commands clear it; the other agents
keep it or set it, but for the reset. -/
theorem pendIsClearedOnlyByTheList : Obligations.PendIsClearedOnlyByTheList := by
  refine ⟨fun i s t h hset hclear => ?_, fun d s t h hd => ?_, fun s t h => ?_, fun a s t hacks h => ?_,
    fun b s t => exec_arm_or_harvest_pend, fun s t h hset => ?_, seqStep_pend, fun s a => ?_⟩
  · obtain hkept | ⟨-, hlisted⟩ := exec_pend_kept_or_cleared h
    · rw [hkept, hset] at hclear
      cases hclear
    · exact hlisted
  · cases h
    exact writeCtrlReg_irqStatus_pend_of_bit hd s
  · cases h
    rfl
  · obtain h | h := h
    all_goals
      cases h
      exact writeFp_pend_of_acks hacks a
  · obtain hkept | ⟨hset', -⟩ := engineStep_pend_kept_or_set h
    · exact hkept.trans hset
    · exact hset'
  · exact (hostAct_pend_kept_or_reset s a).imp_right And.left

/-! ### What sets PEND -/

theorem exec_pend_clear {i : Instr} {s t : State} (h : exec i s = .next t) (hclear : s.pend = false) :
    t.pend = false := by
  obtain hkept | ⟨hcleared, -⟩ := exec_pend_kept_or_cleared h
  · exact hkept.trans hclear
  · exact hcleared

theorem portStep_pend_clear {c : Ctx} {s t : State} (h : portStep c s = .next t) (hclear : s.pend = false) :
    t.pend = false := by
  obtain ⟨τ, -, hrun⟩ | ⟨-, rfl⟩ | ⟨-, -, rfl⟩ | ⟨w, rest, -, -, hrun⟩ := portStep_cases h
  · exact exec_pend_clear hrun hclear
  · exact hclear
  · exact hclear
  · obtain ⟨i, -, hi⟩ | ⟨e, -, rfl⟩ := runWord_cases hrun
    · exact exec_pend_clear hi hclear
    · exact hclear

theorem hostStep_pend_clear {s : State} (hclear : s.pend = false) : (hostStep s).pend = false := by
  obtain ⟨-, h⟩ | ⟨a, rest, -, h⟩ := hostStep_cases s
  · rwa [h]
  · rw [h]
    obtain hkept | ⟨-, hreset⟩ := hostAct_pend_kept_or_reset { s with hostActs := rest } a
    · exact hkept.trans hclear
    · exact hreset

/-- Settles O16: every other agent's turn leaves a clear PEND clear, and of the engine's steps only COMPLETE sets it. -/
theorem pendIsSetOnlyByComplete : Obligations.PendIsSetOnlyByComplete := by
  refine ⟨fun s t h hclear hset => ?_, fun s base heng => ⟨_, engineStep_complete heng, rfl⟩⟩
  have hclear' : (s.withEnv s.env.takeAgent).pend = false := hclear
  obtain ⟨c, -, hp⟩ | ⟨hagent, he⟩ | ⟨-, rfl⟩ | ⟨-, rfl⟩ := step_cases h
  · simp [portStep_pend_clear hp hclear'] at hset
  · obtain hkept | ⟨-, hwhole⟩ := engineStep_pend_kept_or_set he
    · simp [hkept, hclear] at hset
    · exact ⟨hagent, hwhole⟩
  · simp [seqStep_pend, hclear] at hset
  · simp [hostStep_pend_clear hclear'] at hset

end Sys2Proof.Machine

/-!
PROOFS. 70_reset_and_hazards.md: the reset event, from any state (R240, R242, R43).
-/
namespace Sys2Proof.Machine

/-- The host's turn takes its next action off the list and performs it (R233). -/
theorem hostStep_of_hostActs {s : State} {a : HostAct} {rest : List HostAct} (h : s.hostActs = a :: rest) :
    hostStep s = hostAct a { s with hostActs := rest } := by
  rw [hostStep, h]

/-- Settles O11: the host's turn is the reset event, whose state is the one after reset (R43) but for frame memory and
what belongs to the host (log 16). -/
theorem resetEventInAnyState : Obligations.ResetEventInAnyState := by
  intro s rest hacts
  have hreset : hostStep s = resetBlock { s with hostActs := rest } := hostStep_of_hostActs hacts
  rw [hreset]
  exact ⟨rfl, rfl, rfl, rfl, rfl, rfl, rfl, rfl, rfl, rfl, rfl, rfl, rfl, rfl, rfl, rfl, rfl, rfl, rfl, rfl, rfl⟩

end Sys2Proof.Machine
